-- ==== Sys2Proof/Word.lean ====
section
/-!
DEFINITION. The word type of the share line's posts and its plainest arithmetic (R143: posts are whole bytes,
values of two bytes are sent most significant byte first). Everything else of this part is an integer quantity
(Conventions of 00_scope.md: every quantity is an integer, divisions round down), held as `Nat` or `Int`.
-/

namespace Sys2Proof

/-- One byte of a post on the share line. -/
abbrev Byte := BitVec 8

/-- A two-byte field of a post. -/
abbrev Half := BitVec 16

end Sys2Proof
end

