-- ==== Sys2Proof/Syntax.lean ====
section
/-!
DEFINITION. The commands of one P42: one constructor of `Instr` for each row of spec/opcode_table.json, with the
values from outside that its step reads (strap levels, readings, the fields of a post heard, the level that moved a
comparator). A value named `vIn` at the end of a constructor is V_in in mV at that event: the event reads it only when it
brings about the switch-off of SHELF, which arms the wake detector from it (R111).
-/

namespace Sys2Proof

/-- The channels one sweep has measured (R6), as measured and not yet judged: mV, mA and half degrees. `lag` is the
time in ms from the measurement of the cell current to the completion of the sweep (R4: within 8 ms). -/
structure Readings where
  vCell : Int
  vIn : Int
  vSys : Int
  vHinge : Int
  iCell : Int
  iLoad : Int
  iIn : Int
  iHinge : Int
  tCell : Int
  tHinge : Int
  lag : Nat
  deriving DecidableEq, Repr

/-- The suspect marks, one for each figure (R7, byte 5 of a STATE post in R143). -/
structure Marks where
  s : Bool
  l : Bool
  q : Bool
  cmax : Bool
  dmax : Bool
  h : Bool
  deriving DecidableEq, Repr

/-- The fields of a STATE post as sent (R143), less header and CRC. -/
structure StatePost where
  seq : Byte
  station : Byte
  phase : BitVec 4
  port : BitVec 4
  fold : BitVec 2
  link : BitVec 2
  balance : Bool
  outcome : BitVec 3
  marks : Marks
  s : Half
  l : Half
  q : Half
  cmax : Half
  dmax : Half
  h : Half
  g : Half
  c : Half
  x : Half
  deriving DecidableEq, Repr

/-- The fields of a LIMIT post as sent (R145), less header, the reserved byte (not read) and CRC. -/
structure LimitPost where
  target : Byte
  contract : Half
  ceiling : Half
  balance : Byte
  order : Byte
  deriving DecidableEq, Repr

/-- The two wake events of R160: the input wake detector, with V_in in mV, and an edge of FOLD. -/
inductive WakeSource where
  | input (vIn : Nat)
  | fold (rising : Bool)
  deriving DecidableEq, Repr

/-- The commands: one constructor for each row of spec/opcode_table.json, in the table's order. -/
inductive Instr where
  /-- POWER_ON_RESET (R148): the supply has come up. -/
  | powerOnReset
  /-- WARM_RESET (R148): RESET_N goes low. -/
  | warmReset
  /-- RESET_N_RISE (R148): RESET_N goes high. -/
  | resetNRise
  /-- STRAPS_COMPLETE (R147, R15): the levels read from S0 to S3 and the level of FOLD. -/
  | strapsComplete (s0 s1 s2 s3 : Fin 16) (foldHigh : Bool)
  /-- PROFILE_COMPLETE (R22, R23, R26): the pack ID resistor in 0.1 kΩ and V_cell in mV, each read where the stage reads it. -/
  | profileComplete (packId vCell : Nat)
  /-- CELL_CHECK_COMPLETE (R149): V_cell in mV and the cell temperature in half degrees. -/
  | cellCheckComplete (vCell : Nat) (tCell : Int)
  /-- LISTEN_END (R150, R151). -/
  | listenEnd
  /-- OWN_ROUND_EXPIRY (R2). -/
  | ownRoundExpiry
  /-- SWEEP_COMPLETE (R5): what the sweep has measured. -/
  | sweepComplete (readings : Readings)
  /-- FOLD_EDGE (R15). -/
  | foldEdge (rising : Bool)
  /-- FOLD_WINDOW_EXPIRY (R15). -/
  | foldWindowExpiry
  /-- STATE_ARRIVAL (R153): a valid STATE post and the source address of its header. -/
  | stateArrival (source : BitVec 3) (post : StatePost) (vIn : Nat)
  /-- LIMIT (R176): a valid LIMIT post of the policy station. -/
  | limit (post : LimitPost) (vIn : Nat)
  /-- SHELF_ORDER (R178, R159): the SHELF order, as it is routed. -/
  | shelfOrder (vIn : Nat)
  /-- RELEASE (R178, R172, R92): the RELEASE order, as it is routed. -/
  | release
  /-- READ_FIRST (R180): QUERY item 1. -/
  | readFirst (target argument : Byte)
  /-- READ_NEXT (R180): QUERY item 2. -/
  | readNext (target argument : Byte)
  /-- READ_COUNTERS (R180): QUERY item 3. -/
  | readCounters (target argument : Byte)
  /-- READ_FLAGS (R56, R180): QUERY item 4. -/
  | readFlags (target argument : Byte)
  /-- CLEAR_LOG (R174, R180): QUERY item 5. -/
  | clearLog (target argument : Byte)
  /-- CLEAR_COUNTERS (R173, R180): QUERY item 6. -/
  | clearCounters (target argument : Byte)
  /-- ACK_PIN (R170, R180): QUERY item 7. -/
  | ackPin (target argument : Byte)
  /-- READ_PROFILE (R24, R180): QUERY item 8. -/
  | readProfile (target argument : Byte)
  /-- READ_START (R152, R180): QUERY item 9. -/
  | readStart (target argument : Byte)
  /-- BAD_ITEM (R180): a QUERY with an undefined item, or a bad class for items 1, 2 and 5. -/
  | badItem (target item argument : Byte)
  /-- ADDRESS_CLASH (R137): a valid post with the station's own address as its source. -/
  | addressClash
  /-- INVALID_POST (R135): the bits heard of a post that is not valid. -/
  | invalidPost (bits : List Bool)
  /-- DISCARDED_POST (R135): the bits of a valid post of a kind or source the station does not take. -/
  | discardedPost (bits : List Bool)
  /-- LINE_IDLE (R130). -/
  | lineIdle
  /-- OWN_STATE_SENT (R134, R17, R66). -/
  | ownStateSent (vIn : Nat)
  /-- ALERT_SENT (R134). -/
  | alertSent
  /-- REPLY_SENT (R134). -/
  | replySent
  /-- LOST_ARBITRATION (R132): the header bits read on the line, the lost one last. -/
  | lostArbitration (read : List Bool)
  /-- ECHO_ABORT (R133): the bits read on the line, the mismatch last. -/
  | echoAbort (read : List Bool) (vIn : Nat)
  /-- LINE_STUCK (R138): the bits the receive buffer has taken since the last event of the line, if any. -/
  | lineStuck (heard : List Bool) (vIn : Nat)
  /-- SHELF_WAIT_EXPIRY (R159). -/
  | shelfWaitExpiry (vIn : Nat)
  /-- WAKE_WAITING_FOR_HIGH (R111): V_in in mV as it has fallen. -/
  | wakeWaitingForHigh (vIn : Nat)
  /-- WAKE_EVENT (R160). -/
  | wakeEvent (source : WakeSource)
  /-- PROBE_STEP_END (R104). -/
  | probeStepEnd
  /-- PROBE_COMPARATOR_TRIP (R104): V_in in mV as it has fallen. -/
  | probeComparatorTrip (vIn : Nat)
  /-- UNDERVOLTAGE_TRIP (R101): V_in in mV as it has fallen. -/
  | undervoltageTrip (vIn : Nat)
  /-- INPUT_OVERVOLT (R102): V_in in mV as it has risen. -/
  | inputOvervolt (vIn : Nat)
  /-- HINGE_TRIP (R88): I_hinge in mA, signed as X. -/
  | hingeTrip (iHinge : Int) (vIn : Nat)
  /-- THRESHOLD_LOWERING (R87). -/
  | thresholdLowering
  /-- CELL_OVERVOLT (R165): V_cell in mV and the cell current in mA (positive charging) at the event. -/
  | cellOvervolt (vCell : Nat) (iCell : Int) (vIn : Nat)
  /-- CELL_OVERCURRENT (R165): V_cell in mV and the cell current in mA (positive charging) at the event. -/
  | cellOvercurrent (vCell : Nat) (iCell : Int) (vIn : Nat)
  /-- COMPARATOR_NO_LONGER_ASSERTED (R165): V_cell in mV and the cell current in mA at the event. -/
  | comparatorNoLongerAsserted (vCell : Nat) (iCell : Int)
  deriving DecidableEq, Repr

end Sys2Proof
end

