-- ==== Sys2Proof/Decode.lean ====
section
/-!
DEFINITION. Reading posts. The opcode table gives its rows no bits, so `decodeTableWord` spells no command of any word.
What the part does decode is what it hears on the share line: this file holds the layouts of the posts it reads and sends
(R131, R143, R144, R145), the CRC (R136), the validity of a receive buffer (R135) and `commandOf`, the command that a buffer
heard is; and beside them the encoders of the posts of the policy station and of STATE posts.
-/

namespace Sys2Proof

/-- The command that a word spells by the table's bits: the table gives no row any bits, so none. -/
def decodeTableWord (_nbits _w : Nat) : Option Instr :=
  none

/-! ### Bits and bytes: most significant bit first, most significant byte first (R130, R143) -/

/-- The bits of one byte as sent. -/
def bitsOfByte (b : Byte) : List Bool :=
  [b.getLsbD 7, b.getLsbD 6, b.getLsbD 5, b.getLsbD 4, b.getLsbD 3, b.getLsbD 2, b.getLsbD 1, b.getLsbD 0]

/-- The bits of a post as sent. -/
def bitsOfBytes (bs : List Byte) : List Bool :=
  bs.flatMap bitsOfByte

/-- One byte from its bits as sent. -/
def byteOfBits (b7 b6 b5 b4 b3 b2 b1 b0 : Bool) : Byte :=
  BitVec.ofBool b7 ++ BitVec.ofBool b6 ++ BitVec.ofBool b5 ++ BitVec.ofBool b4 ++
    BitVec.ofBool b3 ++ BitVec.ofBool b2 ++ BitVec.ofBool b1 ++ BitVec.ofBool b0

/-- The whole bytes of a receive buffer. -/
def bytesOfBits : List Bool → List Byte
  | b7 :: b6 :: b5 :: b4 :: b3 :: b2 :: b1 :: b0 :: rest => byteOfBits b7 b6 b5 b4 b3 b2 b1 b0 :: bytesOfBits rest
  | _ => []

/-- The two bytes of a two-byte value, most significant first. -/
def bytesOfHalf (h : Half) : List Byte :=
  [h.extractLsb' 8 8, h.extractLsb' 0 8]

/-- A two-byte value from its bytes, most significant first. -/
def halfOfBytes (hi lo : Byte) : Half :=
  hi ++ lo

/-- A number as one byte. -/
def byteOfNat (n : Nat) : Byte :=
  BitVec.ofNat 8 n

/-- A number as two bytes, most significant first. -/
def bytes2 (n : Nat) : List Byte :=
  [byteOfNat (n / 256), byteOfNat n]

/-- A number as three bytes, most significant first. -/
def bytes3 (n : Nat) : List Byte :=
  [byteOfNat (n / 65536), byteOfNat (n / 256), byteOfNat n]

/-- A temperature in half degrees as ALERT and REPLY posts code it, 2 × (t + 40), held to 0 to 255 (R144, R181). -/
def temperatureByte (t2 : Int) : Byte :=
  byteOfNat (min 255 (max 0 (t2 + 80))).toNat

/-! ### The CRC (R136) -/

/-- One message bit into the CRC register. -/
def crcBit (r : Byte) (b : Bool) : Byte :=
  if r.getLsbD 7 != b then (r <<< 1) ^^^ 0x9B#8 else r <<< 1

/-- The CRC of the bytes before it. -/
def crc (bs : List Byte) : Byte :=
  (bitsOfBytes bs).foldl crcBit 0xFF#8

/-! ### Headers and lengths (R131) -/

/-- The header of a post of kind code `kind` from address `source`. -/
def header (kind source : Nat) : Byte :=
  byteOfNat (32 * kind + 4 * source)

/-- The kind code of a header. -/
def headerKind (h : Byte) : Nat :=
  (h.extractLsb' 5 3).toNat

/-- The source address of a header. -/
def headerSource (h : Byte) : BitVec 3 :=
  h.extractLsb' 2 3

/-- The length in bytes of a post of each kind, header and CRC included. -/
def kindLength : Nat → Option Nat
  | 0 => some 12
  | 1 => some 10
  | 2 => some 25
  | 3 => some 5
  | 4 => some 22
  | _ => none

/-- A post whole: its body (header first) and its CRC. -/
def withCrc (body : List Byte) : List Byte :=
  body ++ [crc body]

/-! ### STATE posts (R143) -/

/-- Byte 5 of a STATE post. -/
def marksByte (m : Marks) : Byte :=
  byteOfBits false false m.s m.l m.q m.cmax m.dmax m.h

/-- The marks of byte 5. -/
def marksOfByte (b : Byte) : Marks :=
  { s := b.getLsbD 5, l := b.getLsbD 4, q := b.getLsbD 3, cmax := b.getLsbD 2, dmax := b.getLsbD 1, h := b.getLsbD 0 }

/-- The 25 bytes of a STATE post from `source`. -/
def encodeState (source : BitVec 3) (p : StatePost) : List Byte :=
  withCrc <|
    [header 2 source.toNat, p.seq, p.station, p.phase ++ p.port,
      p.fold ++ p.link ++ BitVec.ofBool p.balance ++ p.outcome, marksByte p.marks] ++
    bytesOfHalf p.s ++ bytesOfHalf p.l ++ bytesOfHalf p.q ++ bytesOfHalf p.cmax ++ bytesOfHalf p.dmax ++
    bytesOfHalf p.h ++ bytesOfHalf p.g ++ bytesOfHalf p.c ++ bytesOfHalf p.x

/-- The two bytes from byte number `n` on. -/
def halfAt (bs : List Byte) (n : Nat) : Half :=
  halfOfBytes (bs.getD n 0) (bs.getD (n + 1) 0)

/-- The fields of the bytes of a STATE post. -/
def decodeState (bs : List Byte) : StatePost :=
  let b3 := bs.getD 3 0
  let b4 := bs.getD 4 0
  { seq := bs.getD 1 0
    station := bs.getD 2 0
    phase := b3.extractLsb' 4 4
    port := b3.extractLsb' 0 4
    fold := b4.extractLsb' 6 2
    link := b4.extractLsb' 4 2
    balance := b4.getLsbD 3
    outcome := b4.extractLsb' 0 3
    marks := marksOfByte (bs.getD 5 0)
    s := halfAt bs 6
    l := halfAt bs 8
    q := halfAt bs 10
    cmax := halfAt bs 12
    dmax := halfAt bs 14
    h := halfAt bs 16
    g := halfAt bs 18
    c := halfAt bs 20
    x := halfAt bs 22 }

/-! ### LIMIT and QUERY posts (R145) -/

/-- The 10 bytes of a LIMIT post of the policy station; the reserved byte is sent as 0. -/
def encodeLimit (p : LimitPost) : List Byte :=
  withCrc <| [header 1 7, p.target] ++ bytesOfHalf p.contract ++ bytesOfHalf p.ceiling ++ [p.balance, p.order, 0]

/-- The fields of the bytes of a LIMIT post. -/
def decodeLimit (bs : List Byte) : LimitPost :=
  { target := bs.getD 1 0, contract := halfAt bs 2, ceiling := halfAt bs 4, balance := bs.getD 6 0, order := bs.getD 7 0 }

/-- The 5 bytes of a QUERY post of the policy station. -/
def encodeQuery (target item argument : Byte) : List Byte :=
  withCrc [header 3 7, target, item, argument]

/-- Items 1, 2 and 5 take a class, 1 DEGRADED or 2 HALTING (R180). -/
def goodClass (argument : Byte) : Bool :=
  argument == 1 || argument == 2

/-- Whether a QUERY names an item the policy handling has, with a good class where the item takes one (R180). -/
def goodItem (item argument : Byte) : Bool :=
  match item.toNat with
  | 1 | 2 | 5 => goodClass argument
  | 3 | 4 | 6 | 7 | 8 | 9 => true
  | _ => false

/-- The command that a QUERY is, by its item (R180). -/
def queryCommand (target item argument : Byte) : Instr :=
  if goodItem item argument then
    match item.toNat with
    | 1 => .readFirst target argument
    | 2 => .readNext target argument
    | 3 => .readCounters target argument
    | 4 => .readFlags target argument
    | 5 => .clearLog target argument
    | 6 => .clearCounters target argument
    | 7 => .ackPin target argument
    | 8 => .readProfile target argument
    | _ => .readStart target argument
  else .badItem target item argument

/-! ### The receive buffer (R135) -/

/-- The bytes of a receive buffer that holds a valid post: whole bytes, a header with its two low bits 0 and a kind of
R131, the length of that kind, and a CRC that agrees. -/
def validPost (bits : List Bool) : Option (List Byte) :=
  let bs := bytesOfBits bits
  match bs with
  | [] => none
  | h :: _ =>
    if bits.length = 8 * bs.length ∧ h.extractLsb' 0 2 = 0#2 ∧ kindLength (headerKind h) = some bs.length ∧
        crc bs.dropLast = bs.getLastD 0 then some bs
    else none

/-- The command that a buffer heard is, at a station of address `own` (R135): not valid; of the own address; or handed on
by kind and source. `vIn` is V_in at that event. -/
def commandOf (own : BitVec 3) (vIn : Nat) (bits : List Bool) : Instr :=
  match validPost bits with
  | none => .invalidPost bits
  | some bs =>
    let h := bs.getD 0 0
    let source := headerSource h
    if source = own then .addressClash
    else
      match headerKind h with
      | 1 => if source = 7 then .limit (decodeLimit bs) vIn else .discardedPost bits
      | 2 => if source = 7 then .discardedPost bits else .stateArrival source (decodeState bs) vIn
      | 3 => if source = 7 then queryCommand (bs.getD 1 0) (bs.getD 2 0) (bs.getD 3 0) else .discardedPost bits
      | _ => .discardedPost bits

end Sys2Proof
end

