-- ==== Sys2Proof/Machine/State.lean ====
section
/-!
DEFINITION. The state of one P42, block by block as 00_scope.md lists the blocks, and its values after a power-on reset.
Plain data throughout. Power in mW, current in mA, voltage in mV, time in ms, temperatures in half degrees, the gauge's
count in 0.1 mAh and its residue in µC. Fields marked MODEL are the model's own; INVENTORY.md gives the rule of each other.
-/

namespace Sys2Proof.Machine

/-! ### Named values -/

/-- The station states (R156). -/
inductive StationState where
  | start | solo | paired | latched | shelf | mute
  deriving DecidableEq, Repr

/-- The charger's phases (R113). -/
inductive Phase where
  | holdOff | precharge | bulk | taper | full
  deriving DecidableEq, Repr

/-- The cell-temperature bands (R115), lowest first. -/
inductive Band where
  | belowMinus20 | minus20To0 | from0To10 | from10To45 | from45To55 | from55
  deriving DecidableEq, Repr

/-- The input port's states (R98). -/
inductive PortState where
  | absent | detached | probing | holding | blocked
  deriving DecidableEq, Repr

/-- The shelf-exit detector of the input port (R111). -/
inductive WakeDetector where
  | off | waitingForLow | waitingForHigh
  deriving DecidableEq, Repr

/-- The fold state (R15). -/
inductive FoldState where
  | none | opened | closed | moving
  deriving DecidableEq, Repr

/-- The hinge link's states (R81). -/
inductive LinkState where
  | opened | send | receive | barred
  deriving DecidableEq, Repr

/-- The direction of the link (R80). -/
inductive Direction where
  | none | send | receive
  deriving DecidableEq, Repr

/-- The barring: own rounds left (0 is no barring), or until release (R80). -/
inductive Barring where
  | rounds (left : Nat)
  | untilRelease
  deriving DecidableEq, Repr

/-- The logged kinds (R163), in the order of their numbers. -/
inductive Kind where
  | cellOvervolt | cellOvercurrent | cellHot | cellDeep | chargeTimeout | startCell | hingeRepeat | hingeTrip
  | inputOvervolt | loadShortfall | partnerLost | crowd | addressClash | lineStuck | txFail | sensorSuspect
  | profileFallback | strapInvalid
  deriving DecidableEq, Repr

/-- The two classes of the log (R163). -/
inductive Class where
  | degraded | halting
  deriving DecidableEq, Repr

/-- The CORRECTED kinds (R164). -/
inductive Corrected where
  | lineCrc | lineBit | lineGap | queryOverrun | txDrop | linkUnanswered | allotUnordered | learnReject | gaugeClip
  deriving DecidableEq, Repr

/-- The result of a stage of the start (R152). -/
inductive StageResult where
  | none | ok | fallback | failed
  deriving DecidableEq, Repr

/-- The kinds of post a P42 queues (R131, R139). -/
inductive PostKind where
  | alert | state | reply
  deriving DecidableEq, Repr

/-- The status of a REPLY (R144). -/
inductive ReplyStatus where
  | ok | empty | badItem
  deriving DecidableEq, Repr

/-! ### Contents that several blocks hold -/

/-- The six figures of a station (00_scope.md, R9 to R14). -/
structure Figures where
  s : Nat
  l : Nat
  q : Nat
  cmax : Nat
  dmax : Nat
  h : Nat
  deriving DecidableEq, Repr

/-- G, C and X of a proposal (R61). -/
structure Setting where
  g : Int
  c : Int
  x : Int
  deriving DecidableEq, Repr

/-- The outcome flags of allotment runs (R55). -/
structure OutcomeFlags where
  shortfall : Bool
  unordered : Bool
  clampHinge : Bool
  clampCell : Bool
  unused : Bool
  inexact : Bool
  deriving DecidableEq, Repr

/-- The contents of an own STATE post (R16). -/
structure StateContents where
  seq : Nat
  station : StationState
  phase : Phase
  port : PortState
  fold : FoldState
  link : LinkState
  balance : Bool
  code : Nat
  marks : Marks
  figures : Figures
  setting : Setting
  deriving DecidableEq, Repr

/-- An own STATE post, and whether it is the final STATE of SHELF (R19). -/
structure OwnState where
  contents : StateContents
  final : Bool
  deriving DecidableEq, Repr

/-- The contents of an ALERT post (R144, R169); `first` says FIRST rather than NEXT. -/
structure AlertContents where
  kind : Kind
  first : Bool
  station : StationState
  stamp : Nat
  vCell : Int
  tCell : Int
  deriving DecidableEq, Repr

/-- The contents of a REPLY post (R144): the item answered, the status and the 18 content bytes. -/
structure ReplyContents where
  item : Byte
  status : ReplyStatus
  content : List Byte
  deriving DecidableEq, Repr

/-! ### The blocks -/

/-- One channel: its plausibility at the last sweep and its held reading (R1, R6). -/
structure Channel where
  plausible : Bool
  held : Option Int
  deriving DecidableEq, Repr

/-- The channels of R6. -/
structure Channels where
  vCell : Channel
  vIn : Channel
  vSys : Channel
  vHinge : Channel
  iCell : Channel
  iLoad : Channel
  iIn : Channel
  iHinge : Channel
  tCell : Channel
  tHinge : Channel
  deriving DecidableEq, Repr

/-- The round and sweep unit (R1, R15). `timer` is none while stopped. `held` is the composition held during a
transmission of the own STATE post (R18). -/
structure RoundUnit where
  timer : Option Nat
  stamp : Nat
  inFlight : Bool
  earlyRequest : Bool
  channels : Channels
  lastL : Option Nat
  seq : Nat
  composed : Option StateContents
  posted : Option Setting
  held : Option OwnState
  fold : FoldState
  foldWindow : Option Nat
  deriving DecidableEq, Repr

/-- The gauge (R25). `learning` is the learning window; `previous` the moment of the previous measurement on the model's
clock. MODEL: `initPending` says that a power-on reset has come and its initialisation at PROFILE (R26) has not. -/
structure Gauge where
  count : Nat
  residue : Int
  capacity : Nat
  learning : Bool
  span : Int
  overrun : Nat
  previous : Option Nat
  initPending : Bool
  deriving DecidableEq, Repr

/-- The apply unit (R61). The applied link is signed as X: above 0 it sends, below 0 it receives. MODEL: `code` is the
outcome code of the run behind the proposal, which R65 writes into a waiting post with it. -/
structure ApplyUnit where
  proposal : Setting
  code : Nat
  posted : Option Setting
  draw : Nat
  charge : Nat
  link : Int
  unansweredHold : Bool
  rewritePending : Bool
  drawMa : Nat
  chargeMa : Nat
  linkMa : Nat
  deriving DecidableEq, Repr

/-- The hinge link stage (R80). `sinceEntry` is its "state since". `lowering` is the time left until the comparator takes
a lowered threshold (R87). -/
structure HingeStage where
  link : LinkState
  limit : Nat
  limitDir : Direction
  threshold : Nat
  lowering : Option Nat
  unanswered : Nat
  sinceEntry : Bool
  barring : Barring
  history : List Nat
  deriving DecidableEq, Repr

/-- The input port stage (R97). `stepLeft` is the time left of the probe step running (R104). -/
structure InputPort where
  port : PortState
  switchClosed : Bool
  attachCount : Nat
  attachMv : Option Nat
  step : Option Nat
  stepLeft : Nat
  lastHeld : Option Nat
  probed : Option Nat
  drawLimit : Nat
  wake : WakeDetector
  deriving DecidableEq, Repr

/-- The charger (R113). MODEL: `ceilingHolds` is the ceiling condition as the last sweep judged it (R116). -/
structure Charger where
  phase : Phase
  band : Option Band
  setpoint : Nat
  limitMa : Nat
  ceilingLatch : Bool
  ceilingHolds : Bool
  termination : Nat
  prechargeTimer : Nat
  bulkTimer : Nat
  stay : Nat
  timeoutHeld : Bool
  deriving DecidableEq, Repr

/-- A queued post with the echo aborts counted since it joined the queue (R128). -/
structure Queued (α : Type) where
  post : α
  aborts : Nat
  deriving DecidableEq, Repr

/-- The line controller (R128). The transmit queue is held by kind, oldest first; its order is ALERT, STATE, REPLY
(R139). `sending` is the kind of the post whose transmission is running: it is the first of its kind. `idleUs` and
`lowUs` are the idle and the low time in µs. -/
structure LineController where
  alerts : List (Queued AlertContents)
  state : Option (Queued OwnState)
  replies : List (Queued ReplyContents)
  sending : Option PostKind
  receiveBuffer : List Bool
  idleUs : Nat
  lowUs : Nat
  offering : Bool
  stuck : Bool
  deriving DecidableEq, Repr

/-- An entry of the peer table (R153). -/
structure Entry where
  address : BitVec 3
  stale : Bool
  age : Nat
  seq : Nat
  station : StationState
  link : LinkState
  balance : Bool
  marks : Marks
  figures : Figures
  x : Int
  lastL : Option Nat
  deriving DecidableEq, Repr

/-- The station machine (R146). `shelfWait` is none while not running. `off` says that the stages have been switched off
in SHELF (R159). -/
structure StationMachine where
  state : StationState
  latchPending : Bool
  mutePending : Bool
  stuckHold : Bool
  crowd : Bool
  shelfWait : Option Nat
  off : Bool
  deriving DecidableEq, Repr

/-- The decoded straps (R147). `profileField` is the level of S1. -/
structure Straps where
  address : BitVec 3
  inputFitted : Bool
  profileField : Fin 16
  hingeClass : Nat
  period : Nat
  foldFitted : Bool
  degradedPin : Bool
  deriving DecidableEq, Repr

/-- The start record (R152), less the decoded straps, which the start sequencer holds once. -/
structure StartRecord where
  stage : Nat
  strapsResult : StageResult
  profileResult : StageResult
  cellCheckResult : StageResult
  listenResult : StageResult
  profile : Option (Fin 9)
  levels : List (Fin 16)
  deriving DecidableEq, Repr

/-- The start sequencer (R146). `listenLeft` is the time left of LISTEN (R150); `cellCheck` the readings of CELL_CHECK,
V_cell and cell temperature, once it has measured (R168). -/
structure StartSequencer where
  straps : Straps
  profile : Fin 9
  record : StartRecord
  listenLeft : Option Nat
  cellCheck : Option (Nat × Int)
  deriving DecidableEq, Repr

/-- The first record of a class (R168). Its severity is its kind's. -/
structure FaultRecord where
  kind : Kind
  stamp : Nat
  station : StationState
  phase : Phase
  port : PortState
  link : LinkState
  vCell : Int
  tCell : Int
  tHinge : Int
  drawMa : Nat
  chargeMa : Nat
  linkMa : Nat
  linkDir : Direction
  deriving DecidableEq, Repr

/-- The log of one class (R162): the next set is held in the order of kind numbers, each kind once. -/
structure ClassLog where
  first : Option FaultRecord
  next : List Kind
  deriving DecidableEq, Repr

/-- One counter with its overflow flag (R173). -/
structure Counter where
  value : Nat
  overflow : Bool
  deriving DecidableEq, Repr

/-- The fault unit (R162). The DEGRADED pin field is the decoded strap's. -/
structure FaultUnit where
  dischargeClosed : Bool
  armed : Bool
  overvoltAsserted : Bool
  overcurrentAsserted : Bool
  halting : ClassLog
  degraded : ClassLog
  line : Counter
  link : Counter
  allot : Counter
  gauge : Counter
  fltAsserted : Bool
  deriving DecidableEq, Repr

/-- The policy handling (R175). -/
structure Policy where
  contract : Option Nat
  ceiling : Nat
  balance : Bool
  deriving DecidableEq, Repr

/-- The levels of the two logic inputs (R15, R148). -/
structure Pins where
  foldHigh : Bool
  resetNHigh : Bool
  deriving DecidableEq, Repr

/-- The state of one P42. MODEL: `pending` is the queue of commands waiting, first in first out; `clock` the time in ms
since the model began, which no rule reads but through the difference of two moments. -/
structure State where
  pending : List Instr
  clock : Nat
  round : RoundUnit
  gauge : Gauge
  accrued : OutcomeFlags
  apply : ApplyUnit
  hinge : HingeStage
  port : InputPort
  charger : Charger
  line : LineController
  peers : List Entry
  station : StationMachine
  start : StartSequencer
  fault : FaultUnit
  policy : Policy
  pins : Pins
  deriving DecidableEq, Repr

/-! ### The outcomes of a step that is not next -/

/-- What stops the machine: nothing. The part's faults are conditions that it logs or counts and goes on from (R162), so a
fault has no constructor. -/
inductive Fault where
  deriving DecidableEq

/-- What the model gives no meaning. -/
inductive Refusal where
  /-- Raised by an arm of `exec` whose command has no meaning yet; no arm raises it. Safe: the model stops. -/
  | notModelled (mnemonic : String)
  deriving DecidableEq, Repr

/-! ### Values after a power-on reset -/

/-- No flag. -/
def OutcomeFlags.noFlags : OutcomeFlags :=
  { shortfall := false, unordered := false, clampHinge := false, clampCell := false, unused := false, inexact := false }

/-- No mark. -/
def Marks.noMarks : Marks :=
  { s := false, l := false, q := false, cmax := false, dmax := false, h := false }

/-- The proposal of zeros (R61). -/
def Setting.zero : Setting :=
  { g := 0, c := 0, x := 0 }

/-- A channel after any reset (R1). -/
def Channel.reset : Channel :=
  { plausible := true, held := none }

/-- The channels after any reset (R1). -/
def Channels.reset : Channels :=
  { vCell := .reset, vIn := .reset, vSys := .reset, vHinge := .reset, iCell := .reset, iLoad := .reset, iIn := .reset,
    iHinge := .reset, tCell := .reset, tHinge := .reset }

/-- The round and sweep unit after any reset (R1). DESIGN CHOICE: the fold state is NONE until STRAPS. -/
def RoundUnit.reset : RoundUnit :=
  { timer := none, stamp := 0, inFlight := false, earlyRequest := false, channels := .reset, lastL := none, seq := 0,
    composed := none, posted := none, held := none, fold := .none, foldWindow := none }

/-- The gauge after a power-on reset (R25). DESIGN CHOICE: count 0 and capacity 1000 until PROFILE sets them (R26). -/
def Gauge.reset : Gauge :=
  { count := 0, residue := 0, capacity := 1000, learning := false, span := 0, overrun := 0, previous := none,
    initPending := true }

/-- The apply unit after any reset (R61). -/
def ApplyUnit.reset : ApplyUnit :=
  { proposal := .zero, code := 0, posted := none, draw := 0, charge := 0, link := 0, unansweredHold := false,
    rewritePending := false, drawMa := 0, chargeMa := 0, linkMa := 0 }

/-- The hinge link stage after any reset (R80). -/
def HingeStage.reset : HingeStage :=
  { link := .opened, limit := 0, limitDir := .none, threshold := 100, lowering := none, unanswered := 0,
    sinceEntry := false, barring := .rounds 0, history := [] }

/-- The input port stage after any reset (R97). -/
def InputPort.reset : InputPort :=
  { port := .detached, switchClosed := false, attachCount := 0, attachMv := none, step := none, stepLeft := 0,
    lastHeld := none, probed := none, drawLimit := 0, wake := .off }

/-- The charger after any reset (R113). -/
def Charger.reset : Charger :=
  { phase := .holdOff, band := none, setpoint := 0, limitMa := 0, ceilingLatch := false, ceilingHolds := true,
    termination := 0, prechargeTimer := 0, bulkTimer := 0, stay := 0, timeoutHeld := false }

/-- The line controller after any reset (R128). -/
def LineController.reset : LineController :=
  { alerts := [], state := none, replies := [], sending := none, receiveBuffer := [], idleUs := 0, lowUs := 0,
    offering := false, stuck := false }

/-- The station machine after any reset (R146). -/
def StationMachine.reset : StationMachine :=
  { state := .start, latchPending := false, mutePending := false, stuckHold := false, crowd := false, shelfWait := none,
    off := false }

/-- The decoded straps until STRAPS has read the pins: those of four levels of 0 (DESIGN CHOICE; the pin field is no,
R162). -/
def Straps.cleared : Straps :=
  { address := 0, inputFitted := false, profileField := 0, hingeClass := 4000, period := 100, foldFitted := false,
    degradedPin := false }

/-- The start record cleared, at the beginning of a start (R152). -/
def StartRecord.cleared : StartRecord :=
  { stage := 1, strapsResult := .none, profileResult := .none, cellCheckResult := .none, listenResult := .none,
    profile := none, levels := [0, 0, 0, 0] }

/-- The start sequencer after a power-on reset (R146). DESIGN CHOICE: the profile in use is 0 until PROFILE. -/
def StartSequencer.reset : StartSequencer :=
  { straps := .cleared, profile := 0, record := .cleared, listenLeft := none, cellCheck := none }

/-- A class of the log with nothing in it. -/
def ClassLog.empty : ClassLog :=
  { first := none, next := [] }

/-- A counter cleared. -/
def Counter.zero : Counter :=
  { value := 0, overflow := false }

/-- The fault unit after a power-on reset (R162). -/
def FaultUnit.reset : FaultUnit :=
  { dischargeClosed := true, armed := false, overvoltAsserted := false, overcurrentAsserted := false, halting := .empty,
    degraded := .empty, line := .zero, link := .zero, allot := .zero, gauge := .zero, fltAsserted := false }

/-- The policy handling after any start (R175). -/
def Policy.reset : Policy :=
  { contract := none, ceiling := 1000, balance := true }

/-- The pins. DESIGN CHOICE: FOLD high; RESET_N is high while the part is out of reset (R148). -/
def Pins.reset : Pins :=
  { foldHigh := true, resetNHigh := true }

/-- The machine right after a power-on reset: the start has begun at STRAPS (R148). -/
def State.reset : State where
  pending := []
  clock := 0
  round := .reset
  gauge := .reset
  accrued := .noFlags
  apply := .reset
  hinge := .reset
  port := .reset
  charger := .reset
  line := .reset
  peers := []
  station := .reset
  start := .reset
  fault := .reset
  policy := .reset
  pins := .reset

/-! ### Updates of one field, which the operations are written with -/

/-- The state with `pending` replaced. -/
def State.withPending (s : State) (v : List Instr) : State :=
  { s with pending := v }

/-- The state with `clock` replaced. -/
def State.withClock (s : State) (v : Nat) : State :=
  { s with clock := v }

/-- The state with `round` replaced. -/
def State.withRound (s : State) (v : RoundUnit) : State :=
  { s with round := v }

/-- The state with `gauge` replaced. -/
def State.withGauge (s : State) (v : Gauge) : State :=
  { s with gauge := v }

/-- The state with `accrued` replaced. -/
def State.withAccrued (s : State) (v : OutcomeFlags) : State :=
  { s with accrued := v }

/-- The state with `apply` replaced. -/
def State.withApply (s : State) (v : ApplyUnit) : State :=
  { s with apply := v }

/-- The state with `hinge` replaced. -/
def State.withHinge (s : State) (v : HingeStage) : State :=
  { s with hinge := v }

/-- The state with `port` replaced. -/
def State.withPort (s : State) (v : InputPort) : State :=
  { s with port := v }

/-- The state with `charger` replaced. -/
def State.withCharger (s : State) (v : Charger) : State :=
  { s with charger := v }

/-- The state with `line` replaced. -/
def State.withLine (s : State) (v : LineController) : State :=
  { s with line := v }

/-- The state with `peers` replaced. -/
def State.withPeers (s : State) (v : List Entry) : State :=
  { s with peers := v }

/-- The state with `station` replaced. -/
def State.withStation (s : State) (v : StationMachine) : State :=
  { s with station := v }

/-- The state with `start` replaced. -/
def State.withStart (s : State) (v : StartSequencer) : State :=
  { s with start := v }

/-- The state with `fault` replaced. -/
def State.withFault (s : State) (v : FaultUnit) : State :=
  { s with fault := v }

/-- The state with `policy` replaced. -/
def State.withPolicy (s : State) (v : Policy) : State :=
  { s with policy := v }

/-- The state with `pins` replaced. -/
def State.withPins (s : State) (v : Pins) : State :=
  { s with pins := v }

end Sys2Proof.Machine
end

