-- ==== Sys2Proof/Machine/Operands.lean ====
section
/-!
DEFINITION. The forms in which values from outside enter the part: the codes of named values in posts (R143, R144, R181),
the plausibility windows of the sweep (R6, R7), the strap decoding (R147), the fields of LIMIT posts (R177) and the clamping
of a STATE post's figures (R153).
-/

namespace Sys2Proof.Machine

/-! ### Codes of named values (R143, R144, R163, R181) -/

/-- Station state as READ_FIRST codes it; STATE and ALERT posts use the same codes for the states they carry. -/
def StationState.code : StationState → Nat
  | .start => 0
  | .solo => 1
  | .paired => 2
  | .latched => 3
  | .shelf => 4
  | .mute => 5

/-- Charger phase. -/
def Phase.code : Phase → Nat
  | .holdOff => 0
  | .precharge => 1
  | .bulk => 2
  | .taper => 3
  | .full => 4

/-- Port state. -/
def PortState.code : PortState → Nat
  | .absent => 0
  | .detached => 1
  | .probing => 2
  | .holding => 3
  | .blocked => 4

/-- Fold state. -/
def FoldState.code : FoldState → Nat
  | .none => 0
  | .opened => 1
  | .closed => 2
  | .moving => 3

/-- Link state. -/
def LinkState.code : LinkState → Nat
  | .opened => 0
  | .send => 1
  | .receive => 2
  | .barred => 3

/-- Link direction (R181). -/
def Direction.code : Direction → Nat
  | .none => 0
  | .send => 1
  | .receive => 2

/-- Result of a stage of the start (R181). -/
def StageResult.code : StageResult → Nat
  | .none => 0
  | .ok => 1
  | .fallback => 2
  | .failed => 3

/-- Status of a REPLY (R144). -/
def ReplyStatus.code : ReplyStatus → Nat
  | .ok => 0
  | .empty => 1
  | .badItem => 2

/-- Severity of a class in ALERT and REPLY posts (R144). -/
def Class.code : Class → Nat
  | .degraded => 1
  | .halting => 2

/-- The class that a QUERY names in byte 3 (R180). -/
def classOfArgument (argument : Byte) : Option Class :=
  if argument = 1 then some .degraded else if argument = 2 then some .halting else none

/-- The number of a logged kind (R163). -/
def Kind.number : Kind → Nat
  | .cellOvervolt => 1
  | .cellOvercurrent => 2
  | .cellHot => 3
  | .cellDeep => 4
  | .chargeTimeout => 5
  | .startCell => 6
  | .hingeRepeat => 7
  | .hingeTrip => 8
  | .inputOvervolt => 9
  | .loadShortfall => 10
  | .partnerLost => 11
  | .crowd => 12
  | .addressClash => 13
  | .lineStuck => 14
  | .txFail => 15
  | .sensorSuspect => 16
  | .profileFallback => 17
  | .strapInvalid => 18

/-- The class of a logged kind (R163): kinds 1 to 6 are HALTING, the others DEGRADED. -/
def Kind.severity (k : Kind) : Class :=
  if k.number ≤ 6 then .halting else .degraded

/-- The station state that a STATE post carries (R143), for the codes a P42 can compose. -/
def stationOfCode (b : Byte) : Option StationState :=
  match b.toNat with
  | 1 => some .solo
  | 2 => some .paired
  | 3 => some .latched
  | 4 => some .shelf
  | _ => none

/-- The link state of a STATE post (R143). -/
def linkOfCode (b : BitVec 2) : LinkState :=
  match b.toNat with
  | 0 => .opened
  | 1 => .send
  | 2 => .receive
  | _ => .barred

/-! ### Plausibility (R6, R7) -/

/-- A channel after a sweep has measured `x` on it, with window `lo` to `hi`. -/
def Channel.judge (lo hi x : Int) (c : Channel) : Channel :=
  if lo ≤ x ∧ x ≤ hi then { plausible := true, held := some x }
  else { plausible := false, held := some (c.held.getD (if x < lo then lo else hi)) }

/-- The channels after a sweep; V_in and input current are measured only with an input fitted (R6). -/
def Channels.judge (inputFitted : Bool) (r : Readings) (c : Channels) : Channels :=
  { vCell := c.vCell.judge 2000 4800 r.vCell
    vIn := if inputFitted then c.vIn.judge 0 16000 r.vIn else c.vIn
    vSys := c.vSys.judge 2500 5000 r.vSys
    vHinge := c.vHinge.judge 0 9500 r.vHinge
    iCell := c.iCell.judge (-8000) 8000 r.iCell
    iLoad := c.iLoad.judge 0 9000 r.iLoad
    iIn := if inputFitted then c.iIn.judge 0 3500 r.iIn else c.iIn
    iHinge := c.iHinge.judge (-2500) 2500 r.iHinge
    tCell := c.tCell.judge (-80) 250 r.tCell
    tHinge := c.tHinge.judge (-80) 250 r.tHinge }

/-- All channels, in the order of R6. -/
def Channels.all (c : Channels) : List Channel :=
  [c.vCell, c.vIn, c.vSys, c.vHinge, c.iCell, c.iLoad, c.iIn, c.iHinge, c.tCell, c.tHinge]

/-- Whether some channel passes from plausible before to suspect after (R7). -/
def Channels.newlySuspect (before after : Channels) : Bool :=
  (before.all.zip after.all).any fun p => p.1.plausible && !p.2.plausible

/-- The held reading of a channel, 0 where there is none yet. -/
def Channel.value (c : Channel) : Int :=
  c.held.getD 0

/-! ### Straps (R147) -/

/-- Whether a strap level is one that R147 calls invalid. -/
def strapsInvalid (s0 s1 s2 : Fin 16) : Bool :=
  s0.val / 2 = 7 || 9 ≤ s1.val || s2.val % 4 = 3

/-- The decoded straps, invalid fields after their fallback. -/
def decodeStraps (s0 s1 s2 s3 : Fin 16) : Straps :=
  { address := BitVec.ofNat 3 (min 6 (s0.val / 2))
    inputFitted := s0.val % 2 = 1
    profileField := s1
    hingeClass :=
      match s2.val / 4 with
      | 0 => 4000
      | 1 => 6000
      | 2 => 8000
      | _ => 10000
    period :=
      match s2.val % 4 with
      | 0 => 100
      | 2 => 400
      | _ => 200
    foldFitted := s3.val % 2 = 1
    degradedPin := s3.val / 2 % 2 = 1 }

/-! ### LIMIT fields (R177) -/

/-- The contract stored. -/
def contractStored (h : Half) : Option Nat :=
  if h = 0xFFFF then none else some (min 30000 h.toNat)

/-- The ceiling stored. -/
def ceilingStored (h : Half) : Nat :=
  min 1000 (max 500 h.toNat)

/-- The balance stored. -/
def balanceStored (b : Byte) : Bool :=
  b ≠ 0

/-- The orders of a LIMIT post (R145, R177). -/
inductive Order where
  | none | shelf | release
  deriving DecidableEq, Repr

/-- The order a LIMIT post carries. -/
def orderStored (b : Byte) : Order :=
  match b.toNat with
  | 1 => .shelf
  | 2 => .release
  | _ => .none

/-- Whether a LIMIT or QUERY with this target is addressed to the station at `own` (R176, R179). -/
def addressed (own : BitVec 3) (target : Byte) : Bool :=
  target.toNat = own.toNat || target.toNat = 7

/-! ### Figures of a STATE post as they are taken (R153) -/

/-- The fields a P42 can compose: the check that R153 makes before it takes a STATE post. -/
def fieldsComposable (p : StatePost) : Bool :=
  (stationOfCode p.station).isSome && p.phase.toNat ≤ 4 && p.port.toNat ≤ 4 && p.outcome.toNat ≤ 6

/-- The figures, clamped to their ranges. -/
def figuresTaken (p : StatePost) : Figures :=
  { s := min 30000 p.s.toNat, l := min 30000 p.l.toNat, q := min 1000 p.q.toNat, cmax := min 20000 p.cmax.toNat,
    dmax := min 20000 p.dmax.toNat, h := min 10000 p.h.toNat }

/-- X, clamped to its range. -/
def xTaken (p : StatePost) : Int :=
  max (-10000) (min 10000 p.x.toInt)

end Sys2Proof.Machine
end

