-- ==== Sys2Proof/Machine/Flags.lean ====
section
/-!
DEFINITION. Flag computations: the outcome flags of allotment runs and their codes (R55, R56), and the suspect marks of the
figures (R7).
-/

namespace Sys2Proof.Machine

/-- The outcome code: the code of the highest-priority flag, 0 with none (R55). -/
def OutcomeFlags.code (f : OutcomeFlags) : Nat :=
  if f.shortfall then 6 else if f.unordered then 5 else if f.clampHinge then 4 else if f.clampCell then 3
  else if f.unused then 2 else if f.inexact then 1 else 0

/-- A run's flags added to a set of flags (R56). -/
def OutcomeFlags.add (f g : OutcomeFlags) : OutcomeFlags :=
  { shortfall := f.shortfall || g.shortfall, unordered := f.unordered || g.unordered,
    clampHinge := f.clampHinge || g.clampHinge, clampCell := f.clampCell || g.clampCell, unused := f.unused || g.unused,
    inexact := f.inexact || g.inexact }

/-- Content byte 0 of READ_FLAGS: bit (code − 1) for each flag held (R181). -/
def OutcomeFlags.byte (f : OutcomeFlags) : Byte :=
  byteOfBits false false f.shortfall f.unordered f.clampHinge f.clampCell f.unused f.inexact

/-- Whether any figure carries a mark (R41). -/
def anyMark (m : Marks) : Bool :=
  m.s || m.l || m.q || m.cmax || m.dmax || m.h

/-- The marks of the figures at a sweep, from the plausibility of its channels (R7). -/
def marksOf (c : Channels) (port : PortState) : Marks :=
  { s := !c.vIn.plausible && (port = .probing || port = .holding)
    l := !c.vSys.plausible || !c.iLoad.plausible
    q := !c.iCell.plausible
    cmax := !c.vCell.plausible || !c.tCell.plausible
    dmax := !c.vCell.plausible || !c.tCell.plausible
    h := !c.tHinge.plausible }

end Sys2Proof.Machine
end

