-- ==== Sys2Proof/Machine/Allotment.lean ====
section
/-!
DEFINITION. The allotment (R37 to R58): a pure computation from the figure sets of two stations, or of one, to G, C and X of
each, the shortfall of each, and the outcome flags. All intermediate values are signed integers, and every division
rounds down (R37).
-/

namespace Sys2Proof.Machine

/-- The figure set of one station (R37). -/
structure FigureSet where
  address : Nat
  figures : Figures
  marks : Marks
  balance : Bool
  barred : Bool
  lastL : Option Nat
  deriving DecidableEq, Repr

/-- The figures a run uses, after stage 0. -/
structure Used where
  s : Int
  l : Int
  q : Int
  cmax : Int
  dmax : Int
  h : Int
  deriving DecidableEq, Repr

/-- Stage 0: stand-ins for marked figures (R41, R42). -/
def FigureSet.used (f : FigureSet) : Used :=
  let s : Nat := if f.marks.s then 0 else f.figures.s
  { s := s
    l := if f.marks.l then f.lastL.getD s else f.figures.l
    q := f.figures.q
    cmax := if f.marks.cmax then 0 else f.figures.cmax
    dmax := if f.marks.dmax then 0 else f.figures.dmax
    h := if f.marks.h then (if f.barred then 0 else 1000) else f.figures.h }

/-- One station's part of a run's result: its G, C and X, and its reported shortfall F + F′ (R57). -/
structure Allotted where
  setting : Setting
  shortfall : Int
  deriving DecidableEq, Repr

/-- Stage 3's weight (R44): `even` says that every weight above 0 is 1. -/
def weight (even charging : Bool) (u : Used) : Int :=
  if (if charging then u.cmax else u.dmax) ≤ 0 then 0
  else if even then 1
  else if charging then 1000 - u.q + 20 else u.q + 20

/-- Stage 3's split of `a` by weights, before the fit (R45): both shares, and whether the division leaves a remainder. -/
def splitShares (a w1 w2 : Int) : Int × Int × Bool :=
  if w1 + w2 = 0 then (0, 0, false)
  else (a * w1 / (w1 + w2), a - a * w1 / (w1 + w2), decide (a * w1 % (w1 + w2) ≠ 0))

/-- Stage 3's two passes that fit the shares to the ceilings (R46): both shares, and whether a pass has moved power. -/
def fitShares (s1 s2 top1 top2 : Int) : Int × Int × Bool :=
  let a1 := min s1 top1
  let a2 := s2 + (s1 - a1)
  let b2 := min a2 top2
  (a1 + (a2 - b2), b2, decide (top1 < s1) || decide (top2 < a2))

/-- Stage 4: the balance shift before it is reduced (R47). -/
def shiftWanted (q1 q2 : Int) : Int :=
  min 2000 (20 * (|q1 - q2| - 30))

/-- Stage 4: the balance shift (R47), for the cell powers of stage 3: both cell powers, and whether the shift is reduced. -/
def balanceShift (u1 u2 : Used) (c1 c2 : Int) : Int × Int × Bool :=
  let wanted := shiftWanted u1.q u2.q
  if u1.q < u2.q then
    let shift := min wanted (min (u1.cmax - c1) (c2 + u2.dmax))
    (c1 + shift, c2 - shift, decide (shift < wanted))
  else
    let shift := min wanted (min (u2.cmax - c2) (c1 + u1.dmax))
    (c1 - shift, c2 + shift, decide (shift < wanted))

/-- Stage 5: U charged to the stations, first and second (R48). -/
def chargeUnused (u n1 n2 : Int) : Int × Int :=
  if n2 ≤ n1 then (min u (max n1 0), u - min u (max n1 0)) else (u - min u (max n2 0), min u (max n2 0))

/-- Stage 5: F charged to the stations, first and second (R48). -/
def chargeShortfall (f n1 n2 : Int) : Int × Int :=
  if n1 ≤ n2 then (min f (max (-n1) 0), f - min f (max (-n1) 0)) else (f - min f (max (-n2) 0), min f (max (-n2) 0))

/-- Stage 7: X within the hinge bound, its sign kept (R50). -/
def boundLink (x h : Int) : Int :=
  if h < x then h else if x < -h then -h else x

/-- Stage 7's local settle (R51): the cell power, U′ and F′. -/
def settleCell (u : Used) (c : Int) : Int × Int × Int :=
  if u.cmax < c then (u.cmax, c - u.cmax, 0)
  else if c < -u.dmax then (-u.dmax, 0, -u.dmax - c)
  else (c, 0, 0)

/-- The result of a run for the first and the second station, and its flags. -/
structure RunResult where
  first : Allotted
  second : Allotted
  flags : OutcomeFlags
  deriving DecidableEq, Repr

/-- A paired run (R43 to R52); `a` is the first station's figure set. -/
def pairedRun (a b : FigureSet) : RunResult :=
  let u1 := a.used
  let u2 := b.used
  let n1 := u1.s - u1.l
  let n2 := u2.s - u2.l
  let t := n1 + n2
  let charging := decide (0 ≤ t)
  let top1 := if charging then u1.cmax else u1.dmax
  let top2 := if charging then u2.cmax else u2.dmax
  let amount := min |t| (top1 + top2)
  let unused := if charging then t - amount else 0
  let short := if charging then 0 else -t - amount
  let balanced := a.balance && b.balance
  let qMarked := a.marks.q || b.marks.q
  let even := !balanced || qMarked
  let split := splitShares amount (weight even charging u1) (weight even charging u2)
  let fit := fitShares split.1 split.2.1 top1 top2
  let c1 := if charging then fit.1 else -fit.1
  let c2 := if charging then fit.2.1 else -fit.2.1
  let shifts := balanced && !qMarked && decide (30 < |u1.q - u2.q|)
  let shifted := if shifts then balanceShift u1 u2 c1 c2 else (c1, c2, false)
  let us := chargeUnused unused n1 n2
  let fs := chargeShortfall short n1 n2
  let m1 := n1 - us.1 + fs.1
  let m2 := n2 - us.2 + fs.2
  let x := m1 - shifted.1
  let x1 := boundLink x (min u1.h u2.h)
  let settled1 := settleCell u1 (if x1 = x then shifted.1 else m1 - x1)
  let settled2 := settleCell u2 (if x1 = x then shifted.2.1 else m2 + x1)
  { first :=
      { setting := { g := u1.s - us.1 - settled1.2.1, c := settled1.1, x := x1 }, shortfall := fs.1 + settled1.2.2 }
    second :=
      { setting := { g := u2.s - us.2 - settled2.2.1, c := settled2.1, x := -x1 }, shortfall := fs.2 + settled2.2.2 }
    flags :=
      { shortfall := decide (0 < short) || decide (0 < settled1.2.2) || decide (0 < settled2.2.2)
        unordered := anyMark a.marks || anyMark b.marks
        clampHinge := decide (x1 ≠ x)
        clampCell := fit.2.2 || shifted.2.2
        unused := decide (0 < unused) || decide (0 < settled1.2.1) || decide (0 < settled2.2.1)
        inexact := split.2.2 } }

/-- A solo run (R53). -/
def soloRun (a : FigureSet) : Allotted × OutcomeFlags :=
  let u := a.used
  let t := u.s - u.l
  let placed := min t u.cmax
  let covered := min (-t) u.dmax
  let unused := if 0 ≤ t then t - placed else 0
  let short := if 0 ≤ t then 0 else -t - covered
  ({ setting := { g := u.s - unused, c := if 0 ≤ t then placed else -covered, x := 0 }, shortfall := short },
    { OutcomeFlags.noFlags with
      shortfall := decide (0 < short), unordered := anyMark a.marks, unused := decide (0 < unused) })

/-- The own part of a run with a partner, the station of the lower address being first (R40), and the run's flags. -/
def runWith (own partner : FigureSet) : Allotted × OutcomeFlags :=
  if own.address < partner.address then
    let r := pairedRun own partner
    (r.first, r.flags)
  else
    let r := pairedRun partner own
    (r.second, r.flags)

end Sys2Proof.Machine
end

