-- ==== Sys2Proof/Machine/Profiles.lean ====
section
/-!
DEFINITION. The cell profile table (R20), its derived thresholds (R21), and the choice of the profile in use (R22, R23).
-/

namespace Sys2Proof.Machine

/-- A row of the cell profile table. The ID window is in 0.1 kΩ; profile 0 has none. -/
structure Profile where
  capacity : Nat
  chargeMv : Nat
  ccMa : Nat
  taperMa : Nat
  maxDischargeMa : Nat
  cutoffMv : Nat
  idWindow : Option (Nat × Nat)
  limitMin : Nat
  deriving DecidableEq, Repr

/-- The table of R20. -/
def profileRow : Fin 9 → Profile
  | 0 => ⟨1000, 4100, 500, 50, 2000, 3300, none, 240⟩
  | 1 => ⟨1800, 4400, 1800, 90, 4000, 3000, some (90, 110), 240⟩
  | 2 => ⟨2100, 4400, 2100, 105, 4500, 3000, some (140, 165), 240⟩
  | 3 => ⟨2300, 4450, 2300, 115, 5000, 3000, some (200, 235), 240⟩
  | 4 => ⟨2500, 4450, 2500, 125, 5000, 3000, some (270, 310), 270⟩
  | 5 => ⟨2000, 4350, 1500, 100, 4000, 3100, some (360, 410), 270⟩
  | 6 => ⟨2700, 4450, 2700, 135, 5500, 3000, some (470, 530), 270⟩
  | 7 => ⟨3000, 4400, 2400, 150, 6000, 3000, some (620, 700), 300⟩
  | 8 => ⟨1600, 4350, 1600, 80, 3500, 3100, some (820, 920), 240⟩

/-- Precharge threshold in mV, for every profile (R21). -/
def prechargeMv : Nat := 3000

/-- Precharge limit in ms, for every profile (R21: 30 minutes). -/
def prechargeLimitMs : Nat := 1800000

/-- Precharge current (R21). -/
def Profile.prechargeMa (p : Profile) : Nat := p.ccMa / 10

/-- Recharge threshold (R21). -/
def Profile.rechargeMv (p : Profile) : Nat := p.chargeMv - 100

/-- Level of the cell overvoltage comparator (R21). -/
def Profile.overvoltMv (p : Profile) : Nat := p.chargeMv + 100

/-- Level of the discharge overcurrent comparator (R21): 1.5 × max discharge. -/
def Profile.overcurrentMa (p : Profile) : Nat := 3 * p.maxDischargeMa / 2

/-- Deep threshold (R21). -/
def Profile.deepMv (p : Profile) : Nat := p.cutoffMv - 200

/-- Bulk + taper limit in ms (R113). -/
def Profile.bulkLimitMs (p : Profile) : Nat := p.limitMin * 60000

/-- Whether a pack ID reading lies in a profile's window, both bounds included (R23). -/
def Profile.matches (p : Profile) (packId : Nat) : Bool :=
  match p.idWindow with
  | none => false
  | some (lo, hi) => lo ≤ packId && packId ≤ hi

/-- The profile of 1 to 8 whose window holds the reading, if any (R23). -/
def matchPack (packId : Nat) : Option (Fin 9) :=
  [1, 2, 3, 4, 5, 6, 7, 8].find? fun n => (profileRow n).matches packId

/-- The profile in use and the PROFILE stage's result, from the level of S1 and the pack ID reading (R22, R23). -/
def chooseProfile (field : Fin 16) (packId : Nat) : Fin 9 × StageResult :=
  if field.val = 0 then
    match matchPack packId with
    | some n => (n, .ok)
    | none => (0, .fallback)
  else if h : field.val < 9 then (⟨field.val, h⟩, .ok)
  else (0, .fallback)

/-- The profile in use (R24). -/
def State.profile (s : State) : Profile :=
  profileRow s.start.profile

end Sys2Proof.Machine
end

