-- ==== Sys2Proof/Machine/ChargerPhases.lean ====
section
/-!
DEFINITION. The charger (R113 to R127): bands, the charge condition and the ceiling, phase transitions, termination and the
safety timers.
-/

namespace Sys2Proof.Machine

/-- The band of a cell temperature (R115). -/
def bandOf (t2 : Int) : Band :=
  if t2 < -40 then .belowMinus20
  else if t2 < 0 then .minus20To0
  else if t2 < 20 then .from0To10
  else if t2 < 90 then .from10To45
  else if t2 < 110 then .from45To55
  else .from55

/-- The charge factor of a band in percent; none permits no charge (R113, R115). -/
def chargeFactor : Option Band → Nat
  | some .from0To10 => 50
  | some .from10To45 => 100
  | some .from45To55 => 50
  | _ => 0

/-- The regulation voltage (R114). -/
def regulationMv (p : Profile) (b : Option Band) : Nat :=
  if b = some .from45To55 then p.chargeMv - 100 else p.chargeMv

/-- The ceiling latch as a sweep judges it (R116). -/
def latchJudged (ceiling q : Nat) (latch : Bool) : Bool :=
  if ceiling = 1000 then false
  else if ceiling ≤ q then true
  else if q < ceiling - 20 then false
  else latch

/-- The ceiling condition (R116). -/
def ceilingCondition (ceiling q : Nat) (latch : Bool) : Bool :=
  if ceiling = 1000 then true else if latch then q < ceiling - 20 else q < ceiling

/-- The station states in which charging may be permitted (R117). -/
def stationCharges : StationState → Bool
  | .solo => true
  | .paired => true
  | .mute => true
  | _ => false

/-- Whether charging is permitted (R117). -/
def Charger.permitted (st : StationState) (c : Charger) : Bool :=
  decide (0 < chargeFactor c.band) && c.ceilingHolds && stationCharges st && !c.timeoutHeld

/-- Entry into HOLD_OFF (R119): the termination count goes to 0 and the hold-off stay restarts. -/
def Charger.enterHoldOff (c : Charger) : Charger :=
  { c with phase := .holdOff, termination := 0, stay := 0 }

/-- Entry from HOLD_OFF into PRECHARGE or BULK, under the restart rule (R119, R120, R124). -/
def Charger.leaveHoldOff (v : Int) (c : Charger) : Charger :=
  { c with
    phase := if v < prechargeMv then .precharge else .bulk
    termination := 0
    prechargeTimer := if c.stay = 600000 then 0 else c.prechargeTimer
    bulkTimer := if c.stay = 600000 then 0 else c.bulkTimer }

/-- Counting a sweep's interval into the timer of the phase that stands (R123). -/
def Charger.countInterval (plausible : Bool) (i : Int) (t : Nat) (c : Charger) : Charger :=
  let counts := if plausible then decide (0 < i) else decide (0 < c.limitMa)
  if counts then
    match c.phase with
    | .precharge => { c with prechargeTimer := c.prechargeTimer + t }
    | .bulk => { c with bulkTimer := c.bulkTimer + t }
    | .taper => { c with bulkTimer := c.bulkTimer + t }
    | .holdOff => c
    | .full => c
  else c

/-- Whether a safety timer stands at or above its limit (R125). -/
def Charger.timerExpired (p : Profile) (c : Charger) : Bool :=
  prechargeLimitMs ≤ c.prechargeTimer || p.bulkLimitMs ≤ c.bulkTimer

/-- The termination count after a sweep in TAPER (R121). -/
def Charger.terminationJudged (p : Profile) (plausible : Bool) (i : Int) (c : Charger) : Nat :=
  if !plausible then c.termination
  else if i < 0 then c.termination
  else if (p.taperMa : Int) ≤ i then 0
  else if c.limitMa < p.taperMa then c.termination
  else c.termination + 1

/-- At most one phase transition at a sweep (R119). -/
def Charger.transition (p : Profile) (st : StationState) (plausible : Bool) (i v : Int) (c : Charger) : Charger :=
  match c.phase with
  | .holdOff => if c.permitted st && decide (0 < c.setpoint) then c.leaveHoldOff v else c
  | .precharge =>
    if !c.permitted st then c.enterHoldOff
    else if prechargeMv ≤ v then { c with phase := .bulk, termination := 0 } else c
  | .bulk =>
    if !c.permitted st then c.enterHoldOff
    else if regulationMv p c.band ≤ v then { c with phase := .taper } else c
  | .taper =>
    if !c.permitted st then c.enterHoldOff
    else
      let n := c.terminationJudged p plausible i
      if 2 ≤ n then { c with phase := .full, termination := 0 } else { c with termination := n }
  | .full =>
    if c.permitted st && decide (v < p.rechargeMv) then
      { c with phase := .bulk, termination := 0, prechargeTimer := 0, bulkTimer := 0 }
    else c

/-- The charger at step 2 of a sweep's completion (R118), on the held cell current `i`, V_cell `v` and temperature `t2`, the
interval `t` and the gauge's `q`. The second part says that CHARGE_TIMEOUT is reported. A timer whose expiry is already
held does not expire again (DEDUCED, notes/assumptions/11.md). -/
def Charger.sweep (p : Profile) (st : StationState) (ceiling q : Nat) (plausible : Bool) (i v t2 : Int) (t : Nat)
    (c : Charger) : Charger × Bool :=
  let c1 := { c with band := some (bandOf t2) }.countInterval plausible i t
  if c1.timerExpired p && !c1.timeoutHeld then ({ c1.enterHoldOff with timeoutHeld := true }, true)
  else
    let latch := latchJudged ceiling q c1.ceilingLatch
    let c2 := { c1 with ceilingLatch := latch, ceilingHolds := ceilingCondition ceiling q latch }
    (c2.transition p st plausible i v, false)

/-- The charger takes a charge setpoint and its current limit (R120); `v` is the held V_cell. -/
def Charger.hand (st : StationState) (v : Int) (setpoint limitMa : Nat) (c : Charger) : Charger :=
  let c' := { c with setpoint := setpoint, limitMa := limitMa }
  if c.setpoint = 0 ∧ 0 < setpoint then
    if c.phase = .holdOff ∧ c.permitted st then c'.leaveHoldOff v else c'
  else if 0 < c.setpoint ∧ setpoint = 0 then
    match c.phase with
    | .precharge => c'.enterHoldOff
    | .bulk => c'.enterHoldOff
    | .taper => c'.enterHoldOff
    | .holdOff => c'
    | .full => c'
  else c'

/-- Release from LATCHED (R126). -/
def Charger.released (c : Charger) : Charger :=
  { c with prechargeTimer := 0, bulkTimer := 0, timeoutHeld := false }

/-- The phase whose Cmax is posted: in HOLD_OFF with charging permitted, the phase the charger would enter (R12). -/
def Charger.offeredPhase (st : StationState) (v : Int) (c : Charger) : Phase :=
  if c.phase = .holdOff ∧ c.permitted st then (if v < prechargeMv then .precharge else .bulk) else c.phase

/-- Whether the charge path is on (R114). -/
def Charger.pathOn (c : Charger) : Bool :=
  c.phase = .precharge || c.phase = .bulk || c.phase = .taper

/-- The phase current (R114). -/
def Charger.phaseMa (p : Profile) (c : Charger) : Nat :=
  match c.phase with
  | .precharge => p.prechargeMa * chargeFactor c.band / 100
  | .bulk => p.ccMa * chargeFactor c.band / 100
  | .taper => p.ccMa * chargeFactor c.band / 100
  | .holdOff => 0
  | .full => 0

/-- A bound on the cell's voltage (R114). -/
inductive VoltageBound where
  | none
  | atMost (mv : Nat)
  | heldAt (mv : Nat)
  deriving DecidableEq, Repr

/-- The voltage bound of the phase (R114): none in PRECHARGE, nor with the path off; V_cell at or below the regulation voltage
in BULK, and held at it in TAPER. -/
def Charger.voltageBound (p : Profile) (c : Charger) : VoltageBound :=
  match c.phase with
  | .precharge => .none
  | .bulk => .atMost (regulationMv p c.band)
  | .taper => .heldAt (regulationMv p c.band)
  | .holdOff => .none
  | .full => .none

/-- The most the charger charges with (R114): the smaller of the phase current and the limit handed. -/
def Charger.currentBound (p : Profile) (c : Charger) : Nat :=
  min (c.phaseMa p) c.limitMa

end Sys2Proof.Machine
end

