-- ==== Sys2Proof/Machine/Gauge.lean ====
section
/-!
DEFINITION. The gauge (R25 to R36).
-/

namespace Sys2Proof.Machine

/-- State of charge in 0.1 % units (R32). -/
def Gauge.q (g : Gauge) : Nat :=
  min 1000 (g.count * 100 / g.capacity)

/-- The upper bound of the count (R30). -/
def Gauge.top (g : Gauge) : Int :=
  10 * g.capacity

/-- The state of charge from the open-circuit voltage (R26). -/
def qOcv (vCell : Nat) : Nat :=
  let between (v0 v1 q0 : Nat) : Nat := q0 + 100 * (vCell - v0) / (v1 - v0)
  if vCell < 3300 then 0
  else if vCell < 3580 then between 3300 3580 0
  else if vCell < 3670 then between 3580 3670 100
  else if vCell < 3720 then between 3670 3720 200
  else if vCell < 3760 then between 3720 3760 300
  else if vCell < 3800 then between 3760 3800 400
  else if vCell < 3860 then between 3800 3860 500
  else if vCell < 3940 then between 3860 3940 600
  else if vCell < 4030 then between 3940 4030 700
  else if vCell < 4130 then between 4030 4130 800
  else if vCell < 4250 then between 4130 4250 900
  else 1000

/-- Initialisation after a power-on reset (R26). -/
def Gauge.initialise (nominal vCell : Nat) (g : Gauge) : Gauge :=
  { g with count := qOcv vCell * nominal / 100, residue := 0, capacity := nominal, learning := false, span := 0,
           overrun := 0, initPending := false }

/-- The gauge at a warm reset and at exit from SHELF (R27). -/
def Gauge.warm (g : Gauge) : Gauge :=
  { g with learning := false, span := 0, overrun := 0, previous := none }

/-- The interval from the previous measurement to this one, 0 when there is none (R29). -/
def Gauge.interval (moment : Nat) (g : Gauge) : Nat :=
  match g.previous with
  | none => 0
  | some p => moment - p

/-- The overrun before a sweep's clamped units are added, when the count goes to `new` (R30): back to 0 when the count
reaches a bound from within or is moved away from one. DEDUCED (notes/assumptions/33.md): at a sweep that reaches a bound by
clamping, the return to 0 comes first and the units clamped at that sweep are then added. -/
def Gauge.overrunBefore (new : Int) (g : Gauge) : Nat :=
  if (g.count : Int) = new then g.overrun
  else if new = 0 ∨ new = g.top ∨ g.count = 0 ∨ (g.count : Int) = g.top then 0
  else g.overrun

/-- Adding whole units to the count, bounded (R30). The second part says that GAUGE_CLIP is reported: at each passing of the
overrun from 20 or less to more. DEDUCED (notes/assumptions/34.md): so also again in one stay at a bound, where a
recalibration has zeroed the overrun with the count still there. -/
def Gauge.addUnits (d : Int) (g : Gauge) : Gauge × Bool :=
  let want := g.count + d
  let new := max 0 (min want g.top)
  let before := g.overrunBefore new
  let after := min 65535 (before + (want - new).natAbs)
  ({ g with count := new.toNat, overrun := after }, before ≤ 20 && 20 < after)

/-- Actions 1 to 5 of R29 at a sweep with a plausible cell current `i` over `t` ms. -/
def Gauge.integrate (i : Int) (t : Nat) (g : Gauge) : Gauge × Bool :=
  let charge := g.residue + i * t
  let d := charge.tdiv 360000
  let (g', clip) := g.addUnits d
  ({ g' with residue := charge.tmod 360000
             span := if g.learning then max (-65535) (min 65535 (g.span + d)) else g.span }, clip)

/-- A sweep whose cell current is suspect (R31): nothing is counted, and an open learning window closes. -/
def Gauge.skip (g : Gauge) : Gauge :=
  if g.learning then { g with learning := false, span := 0 } else g

/-- Recalibration at EMPTY (R33). -/
def Gauge.empty (g : Gauge) : Gauge :=
  { g with count := 0, residue := 0, overrun := 0, learning := true, span := 0 }

/-- The gauge at step 1 of a sweep's completion (R29, R31, R33), with the held current `i` and V_cell `v` and the moment
of this sweep's measurement. The second part says that GAUGE_CLIP is reported. DEDUCED (notes/assumptions/35.md): at a sweep
with a suspect current and an EMPTY, the learning window is closed by R31 first and then opened by R33, and ends open. -/
def Gauge.sweep (cutoffMv : Nat) (plausible : Bool) (i v : Int) (moment : Nat) (g : Gauge) : Gauge × Bool :=
  let (g1, clip) := if plausible then g.integrate i (g.interval moment) else (g.skip, false)
  let g2 := if v ≤ cutoffMv ∧ i < 0 then g1.empty else g1
  ({ g2 with previous := some moment }, clip)

/-- Whether the span is accepted at FULL (R34). -/
def Gauge.learns (nominal : Nat) (g : Gauge) : Bool :=
  g.learning && decide (8 * (nominal : Int) ≤ g.span) && decide (g.span ≤ 12 * nominal)

/-- Recalibration at FULL (R34). The second part says that LEARN_REJECT is reported. -/
def Gauge.full (nominal : Nat) (g : Gauge) : Gauge × Bool :=
  let capacity := if g.learns nominal then (g.span / 10).toNat else g.capacity
  ({ g with count := capacity * 10, capacity := capacity, residue := 0, overrun := 0, learning := false, span := 0 },
    g.learning && !g.learns nominal)

end Sys2Proof.Machine
end

