-- ==== Sys2Proof/Machine/HingeLink.lean ====
section
/-!
DEFINITION. The hinge link stage (R80 to R96): link states, the unanswered check, the trip comparator, barring and release,
and the rail between two stages.
-/

namespace Sys2Proof.Machine

/-- The direction of a link power signed as X (R61). -/
def directionOf (x : Int) : Direction :=
  if 0 < x then .send else if x < 0 then .receive else .none

/-- The link state that follows an applied link outside BARRED (R82). -/
def linkStateOf (x : Int) : LinkState :=
  if 0 < x then .send else if x < 0 then .receive else .opened

/-- The comparator threshold of a link limit (R87). -/
def tripThreshold (limit : Nat) : Nat :=
  limit + limit / 5 + 100

/-- The stage takes a link limit (R87): a raise reaches the comparator at once, a lowering 2 ms after. -/
def HingeStage.takeLimit (limit : Nat) (h : HingeStage) : HingeStage :=
  if h.limit < limit then { h with limit := limit, threshold := tripThreshold limit, lowering := none }
  else if limit < h.limit then { h with limit := limit, lowering := some 2 }
  else h

/-- The stage takes the applied link `x` with its current limit (R82). -/
def HingeStage.hand (x : Int) (limit : Nat) (h : HingeStage) : HingeStage :=
  let h := { h.takeLimit limit with limitDir := directionOf x }
  if h.link = .barred ∨ h.link = linkStateOf x then h
  else if x = 0 then { h with link := .opened }
  else { h with link := linkStateOf x, unanswered := 0, sinceEntry := false }

/-- A sweep begins: from here on the sweep in flight is one that began since the entry into SEND or RECEIVE (R82). -/
def HingeStage.sweepBegins (h : HingeStage) : HingeStage :=
  { h with sinceEntry := h.link = .send || h.link = .receive }

/-- Whether the unanswered check is made at a sweep (R85). -/
def HingeStage.checks (iHinge : Channel) (h : HingeStage) : Bool :=
  (h.link = .send || h.link = .receive) && decide (0 < h.limit) && h.sinceEntry && iHinge.plausible

/-- Whether a sweep is short: the current in the link's direction below 25 % of the limit (R85). -/
def HingeStage.short (i : Int) (h : HingeStage) : Bool :=
  4 * (if h.link = .send then i else -i) < h.limit

/-- The unanswered check at step 4 of a sweep's completion (R85). The second part says that the link is unanswered
(R86). -/
def HingeStage.check (iHinge : Channel) (h : HingeStage) : HingeStage × Bool :=
  if h.checks iHinge then
    if h.short iHinge.value then
      if 2 ≤ h.unanswered + 1 then ({ h with unanswered := 0 }, true)
      else ({ h with unanswered := h.unanswered + 1 }, false)
    else ({ h with unanswered := 0 }, false)
  else (h, false)

/-- The trip history after a trip at a round stamp (R80, R88): at most three stamps, each at most once. -/
def historyWith (stamp : Nat) (history : List Nat) : List Nat :=
  if stamp ∈ history then history
  else (if 3 ≤ history.length then history.drop (history.length - 2) else history) ++ [stamp]

/-- Whether a trip escalates, on the history that holds it (R89). -/
def escalates (history : List Nat) : Bool :=
  history.length = 3 && decide ((history.getLastD 0 + 16777216 - history.headD 0) % 16777216 ≤ 64)

/-- The stage at a trip (R88, R89). The second part says that HINGE_REPEAT is reported with HINGE_TRIP. -/
def HingeStage.trip (stamp : Nat) (h : HingeStage) : HingeStage × Bool :=
  let history := historyWith stamp h.history
  let barring := if escalates history || h.barring = .untilRelease then .untilRelease else .rounds 8
  ({ h with link := .barred, history := history, barring := barring }, escalates history)

/-- An own round at the stage (R90). The second part says that a barring has ended. -/
def HingeStage.ownRound (h : HingeStage) : HingeStage × Bool :=
  match h.barring with
  | .rounds (n + 1) =>
    if n = 0 then ({ h with barring := .rounds 0, link := .opened }, true) else ({ h with barring := .rounds n }, false)
  | _ => (h, false)

/-- A RELEASE at the stage (R92). The second part says that a barring has been cleared. -/
def HingeStage.release (h : HingeStage) : HingeStage × Bool :=
  if h.barring = .rounds 0 then ({ h with history := [] }, false)
  else ({ h with barring := .rounds 0, history := [], link := .opened }, true)

/-- The lowered threshold reaches the comparator (R87). -/
def HingeStage.lowerThreshold (h : HingeStage) : HingeStage :=
  { h with threshold := tripThreshold h.limit, lowering := none }

/-! ### The rail between two stages (R81, R83, R84) -/

/-- The upper hold limit in mV: a stage in SEND does not let the rail rise above it (R84). -/
def upperHoldMv : Nat := 8200

/-- The lower hold limit in mV: a stage in RECEIVE does not let the rail fall below it (R84). -/
def lowerHoldMv : Nat := 6800

/-- The voltage in mV at which the rail keepers hold a rail at rest (R83). -/
def keeperMv : Nat := 7400

/-- What the rail keeper sources into the rail, mA at most (R83). -/
def keeperMa (link : LinkState) (vHinge : Int) : Nat :=
  if (link = .opened ∨ link = .barred) ∧ vHinge < keeperMv then 5 else 0

/-- The least and the most current in mA that a stage's regulated path carries in the link's direction, with the rail at
`vHinge` (R81, R84): the link limit while the rail stands on the near side of the stage's hold limit, lowered at the hold
limit as far as it takes to keep the rail there, and none beyond it. Off in OPEN and BARRED. -/
def HingeStage.pathMa (vHinge : Int) (h : HingeStage) : Nat × Nat :=
  match h.link with
  | .send =>
    if vHinge < upperHoldMv then (h.limit, h.limit) else if vHinge = upperHoldMv then (0, h.limit) else (0, 0)
  | .receive =>
    if lowerHoldMv < vHinge then (h.limit, h.limit) else if vHinge = lowerHoldMv then (0, h.limit) else (0, 0)
  | .opened => (0, 0)
  | .barred => (0, 0)

/-- Where the rail stands (R84). -/
inductive RailVoltage where
  | upperHold | lowerHold | between | keeper
  deriving DecidableEq, Repr

/-- The lowest and the highest voltage in mV that the rail has there (R84). -/
def RailVoltage.mv : RailVoltage → Nat × Nat
  | .upperHold => (upperHoldMv, upperHoldMv)
  | .lowerHold => (lowerHoldMv, lowerHoldMv)
  | .between => (lowerHoldMv, upperHoldMv)
  | .keeper => (keeperMv, keeperMv)

/-- The rail voltage and the current through the regulated paths for a pair of link states with their limits (R84). The
current of RECEIVE against OPEN or BARRED, the most that flows, is that of the other's keeper within the own limit. -/
def railOutcome (one two : LinkState) (limitOne limitTwo : Nat) : RailVoltage × Nat :=
  let crossing (source sink : Nat) : RailVoltage × Nat :=
    if sink < source then (.upperHold, sink) else if source < sink then (.lowerHold, source) else (.between, source)
  match one, two with
  | .send, .receive => crossing limitOne limitTwo
  | .receive, .send => crossing limitTwo limitOne
  | .send, _ => (.upperHold, 0)
  | _, .send => (.upperHold, 0)
  | .receive, .receive => (.lowerHold, 0)
  | .receive, _ => (.lowerHold, min limitOne 5)
  | _, .receive => (.lowerHold, min limitTwo 5)
  | _, _ => (.keeper, 0)

end Sys2Proof.Machine
end

