-- ==== Sys2Proof/Machine/Peers.lean ====
section
/-!
DEFINITION. The peer table (R153, R154) and the partner it yields (R155).
-/

namespace Sys2Proof.Machine

/-- An entry as a STATE post writes it: FRESH with age 0. `lastL` is the last unsuspect L held before (R42, R153). -/
def entryOf (source : BitVec 3) (p : StatePost) (st : StationState) (lastL : Option Nat) : Entry :=
  let figures := figuresTaken p
  { address := source, stale := false, age := 0, seq := p.seq.toNat, station := st, link := linkOfCode p.link,
    balance := p.balance, marks := p.marks, figures := figures, x := xTaken p,
    lastL := if p.marks.l then lastL else some figures.l }

/-- The entry for an address, if there is one. -/
def entryAt (source : BitVec 3) (entries : List Entry) : Option Entry :=
  entries.find? fun e => e.address = source

/-- The table with the entry for `e.address` replaced in its place, or `e` at the end where there is none (R153). -/
def writeEntry (e : Entry) (entries : List Entry) : List Entry :=
  if (entryAt e.address entries).isSome then entries.map fun f => if f.address = e.address then e else f
  else entries ++ [e]

/-- Whether a post's seq is other than one more than the entry's previous one (R153). -/
def seqGap (seq : Byte) (before : Option Entry) : Bool :=
  match before with
  | none => false
  | some e => seq.toNat ≠ (e.seq + 1) % 256

/-- One entry after an own round: older by 1, STALE from age 3 on (R154). -/
def Entry.aged (e : Entry) : Entry :=
  { e with age := e.age + 1, stale := e.stale || 3 ≤ e.age + 1 }

/-- The table after an own round's aging; an entry whose age reaches 10 is removed (R154). -/
def ageEntries (entries : List Entry) : List Entry :=
  (entries.map Entry.aged).filter fun e => e.age < 10

/-- Whether an entry qualifies: FRESH, its last posted station state SOLO or PAIRED (R155). -/
def Entry.qualifies (e : Entry) : Bool :=
  !e.stale && (e.station = .solo || e.station = .paired)

/-- The number of qualifying entries. -/
def qualifying (entries : List Entry) : Nat :=
  (entries.filter Entry.qualifies).length

/-- The partner: the one qualifying entry, when exactly one qualifies (R155). -/
def partnerOf (entries : List Entry) : Option Entry :=
  match entries.filter Entry.qualifies with
  | [e] => some e
  | _ => none

/-- Whether an own round's aging takes the partner's entry to STALE (R154). -/
def partnerGoesStale (entries : List Entry) : Bool :=
  match partnerOf entries with
  | none => false
  | some e => e.aged.stale

/-- The partner of a station (R155). -/
def State.partner (s : State) : Option Entry :=
  partnerOf s.peers

end Sys2Proof.Machine
end

