-- ==== Sys2Proof/Machine/Port.lean ====
section
/-!
DEFINITION. The input port stage (R97 to R112): attach and detach, overvoltage, the probe, contract and probed limit, and
the wake detector.
-/

namespace Sys2Proof.Machine

/-- Whether the port is attached (R98). -/
def InputPort.attached (p : InputPort) : Bool :=
  p.port = .probing || p.port = .holding

/-- 92 % of the attach voltage: the probe comparator's threshold and that of the sag check (R98, R109). -/
def InputPort.sagMv (p : InputPort) : Nat :=
  p.attachMv.getD 0 * 92 / 100

/-- A probe begins from 500 mA against the attach voltage held (R104). -/
def InputPort.beginProbe (p : InputPort) : InputPort :=
  { p with port := .probing, switchClosed := true, step := some 500, stepLeft := 20, lastHeld := none, probed := none }

/-- A probe ends in HOLDING with a probed limit (R104). -/
def InputPort.endProbe (limit : Nat) (p : InputPort) : InputPort :=
  { p with port := .holding, step := none, stepLeft := 0, lastHeld := none, probed := some limit }

/-- A probe ends, failed or aborted, with the last step held, or 500 mA when none has held (R104, R105). -/
def InputPort.failProbe (p : InputPort) : InputPort :=
  p.endProbe (p.lastHeld.getD 500)

/-- A probe in flight is aborted to HOLDING (R105, R110, R111); in any other state the port is left as it stands. -/
def InputPort.abortProbe (p : InputPort) : InputPort :=
  if p.port = .probing then p.failProbe else p

/-- The end of a probe step with no trip (R104). -/
def InputPort.stepHeld (p : InputPort) : InputPort :=
  match p.step with
  | none => p
  | some n =>
    if n < 3000 then { p with lastHeld := some n, step := some (n + 100), stepLeft := 20 } else p.endProbe 3000

/-- The port leaves the attached states for `dest`, DETACHED or BLOCKED (R101, R102). -/
def InputPort.leave (dest : PortState) (p : InputPort) : InputPort :=
  { p with port := dest, switchClosed := false, attachCount := 0, attachMv := none, step := none, stepLeft := 0,
           lastHeld := none, probed := none }

/-- The port attaches on a held V_in (R100, R110). -/
def InputPort.attach (contract : Option Nat) (latched : Bool) (v : Nat) (p : InputPort) : InputPort :=
  let p := { p with attachCount := 0, attachMv := some v }
  if contract.isSome then { p with port := .holding, switchClosed := true, probed := none }
  else if latched then { p with port := .holding, switchClosed := true, probed := some 500 }
  else p.beginProbe

/-- The attach check (R100). The second part requests an early sweep. -/
def InputPort.attachCheck (contract : Option Nat) (latched : Bool) (vIn : Channel) (p : InputPort) : InputPort × Bool :=
  if !vIn.plausible then (p, false)
  else if vIn.value < 4300 then ({ p with attachCount := 0 }, false)
  else if p.attachCount + 1 < 3 then ({ p with attachCount := p.attachCount + 1 }, false)
  else (p.attach contract latched vIn.value.toNat, true)

/-- The sag check of a port HOLDING on a probed limit (R109). -/
def InputPort.sagCheck (contract : Option Nat) (vIn : Channel) (p : InputPort) : InputPort :=
  match p.probed with
  | none => p
  | some n =>
    if p.port = .holding ∧ contract = none ∧ vIn.plausible ∧ vIn.value < p.sagMv then
      { p with probed := some (max 500 (n - 100)) }
    else p

/-- The port at step 3 of a sweep's completion (R100, R101, R103, R109). The second part requests an early sweep. -/
def InputPort.sweep (contract : Option Nat) (latched : Bool) (vIn : Channel) (p : InputPort) : InputPort × Bool :=
  match p.port with
  | .absent => (p, false)
  | .detached => p.attachCheck contract latched vIn
  | .probing => if vIn.value < 3800 then (p.leave .detached, true) else (p, false)
  | .holding => if vIn.value < 3800 then (p.leave .detached, true) else (p.sagCheck contract vIn, false)
  | .blocked => if vIn.plausible && decide (vIn.value < 13000) then ({ p with port := .detached }, false) else (p, false)

/-- The port takes a contract, or "none", as it is stored (R107, R110). -/
def InputPort.takeContract (contract : Option Nat) (latched : Bool) (p : InputPort) : InputPort :=
  match contract with
  | some _ => p.abortProbe
  | none =>
    if p.port = .holding ∧ p.probed = none then
      if latched then { p with probed := some 500 } else p.beginProbe
    else p

/-- Release from LATCHED to SOLO (R110). -/
def InputPort.released (contract : Option Nat) (p : InputPort) : InputPort :=
  if p.port = .holding ∧ contract = none ∧ p.probed.isSome then p.beginProbe else p

/-- The STRAPS stage settles the port (R99). -/
def InputPort.settle (inputFitted : Bool) (p : InputPort) : InputPort :=
  if inputFitted then p else { p with port := .absent }

/-- Switch-off in SHELF (R111): the switch opens, the state is frozen, and with an input fitted the wake detector is
armed from V_in. -/
def InputPort.switchOff (inputFitted : Bool) (vIn : Nat) (p : InputPort) : InputPort :=
  { p with
    switchClosed := false
    wake := if inputFitted then (if vIn < 4300 then .waitingForHigh else .waitingForLow) else .off }

/-- The most input current the stage regulates to (R108). -/
def InputPort.currentBound (contract : Option Nat) (p : InputPort) : Nat :=
  match p.port with
  | .probing => p.step.getD 0
  | .holding => if contract.isSome then p.drawLimit else min p.drawLimit (p.probed.getD 0)
  | .detached => 0
  | .blocked => 0
  | .absent => 0

end Sys2Proof.Machine
end

