-- ==== Sys2Proof/Machine/Ops.lean ====
section
/-!
DEFINITION. The operations that several commands share: time, counters, the transmit queue, the log, sweep requests, the
applied setpoints and their hand-over, changes of station state, and the switch-off of SHELF.
-/

namespace Sys2Proof.Machine

/-! ### Time -/

/-- `ms` milliseconds pass: every timer that runs moves (R1, R15, R87, R104, R113, R146, R150), and nothing else
happens. The hold-off stay holds at 600,000 ms and stands still once the charger is switched off (R126). -/
def State.advance (ms : Nat) (s : State) : State :=
  { s with
    clock := s.clock + ms
    round := { s.round with timer := s.round.timer.map (· - ms), foldWindow := s.round.foldWindow.map (· - ms) }
    hinge := { s.hinge with lowering := s.hinge.lowering.map (· - ms) }
    port := { s.port with stepLeft := s.port.stepLeft - ms }
    charger := { s.charger with stay := if s.station.off then s.charger.stay else min 600000 (s.charger.stay + ms) }
    start := { s.start with listenLeft := s.start.listenLeft.map (· - ms) }
    station := { s.station with shelfWait := s.station.shelfWait.map fun t => min 1000 (t + ms) } }

/-! ### Counters (R164, R173) -/

/-- One increase of a counter. -/
def Counter.bump (c : Counter) : Counter :=
  if c.value < 127 then { c with value := c.value + 1 } else { c with overflow := true }

/-- A CORRECTED kind counted in its counter. -/
def FaultUnit.count (k : Corrected) (f : FaultUnit) : FaultUnit :=
  match k with
  | .lineCrc => { f with line := f.line.bump }
  | .lineBit => { f with line := f.line.bump }
  | .lineGap => { f with line := f.line.bump }
  | .queryOverrun => { f with line := f.line.bump }
  | .txDrop => { f with line := f.line.bump }
  | .linkUnanswered => { f with link := f.link.bump }
  | .allotUnordered => { f with allot := f.allot.bump }
  | .learnReject => { f with gauge := f.gauge.bump }
  | .gaugeClip => { f with gauge := f.gauge.bump }

/-- A CORRECTED kind is handed to the fault unit. -/
def State.count (k : Corrected) (s : State) : State :=
  s.withFault (s.fault.count k)

/-- A CORRECTED kind is handed to the fault unit when `b` holds. -/
def State.countIf (b : Bool) (k : Corrected) (s : State) : State :=
  if b then s.count k else s

/-! ### The transmit queue (R139, R140) -/

/-- The number of posts in the queue. -/
def LineController.waiting (l : LineController) : Nat :=
  l.alerts.length + (if l.state.isSome then 1 else 0) + l.replies.length

/-- The kind of the head of the queue (R139). -/
def LineController.head (l : LineController) : Option PostKind :=
  if !l.alerts.isEmpty then some .alert
  else if l.state.isSome then some .state
  else if !l.replies.isEmpty then some .reply
  else none

/-- The queue with its newest REPLY that is not in transmission removed, if there is one (R140). -/
def LineController.dropReply (l : LineController) : Option LineController :=
  if l.replies.length ≤ (if l.sending = some .reply then 1 else 0) then none
  else some { l with replies := l.replies.dropLast }

/-- The queue with its STATE removed, if one waits and is not in transmission (R140). -/
def LineController.dropState (l : LineController) : Option LineController :=
  if l.state.isSome ∧ l.sending ≠ some .state then some { l with state := none } else none

/-- The queue takes an ALERT. The second part says that TX_DROP is reported (R140). -/
def LineController.takeAlert (a : AlertContents) (l : LineController) : LineController × Bool :=
  let join (l : LineController) : LineController := { l with alerts := l.alerts ++ [{ post := a, aborts := 0 }] }
  if l.waiting < 4 then (join l, false)
  else
    match l.dropReply with
    | some l' => (join l', true)
    | none =>
      match l.dropState with
      | some l' => (join l', true)
      | none => (l, true)

/-- An own STATE with another seq. -/
def OwnState.withSeq (seq : Nat) (p : OwnState) : OwnState :=
  { p with contents := { p.contents with seq := seq } }

/-- The queue takes an own STATE that no transmission holds back: in place of a waiting one, with its seq (R18), or as
R140 gives. The second part says that TX_DROP is reported. -/
def LineController.takeState (p : OwnState) (l : LineController) : LineController × Bool :=
  match l.state with
  | some q => ({ l with state := some { post := p.withSeq q.post.contents.seq, aborts := 0 } }, false)
  | none =>
    if l.waiting < 4 then ({ l with state := some { post := p, aborts := 0 } }, false)
    else
      match l.dropReply with
      | some l' => ({ l' with state := some { post := p, aborts := 0 } }, true)
      | none => (l, true)

/-- The queue takes a REPLY. The second part says that TX_DROP is reported (R140). -/
def LineController.takeReply (r : ReplyContents) (l : LineController) : LineController × Bool :=
  if l.waiting < 4 then ({ l with replies := l.replies ++ [{ post := r, aborts := 0 }] }, false) else (l, true)

/-- The queue emptied, a transmission abandoned (R141). -/
def LineController.emptied (l : LineController) : LineController :=
  { l with alerts := [], state := none, replies := [], sending := none }

/-- Whether the straps have been decoded since the last reset: the STRAPS stage has ended (R128, R152). -/
def State.strapped (s : State) : Bool :=
  2 ≤ s.start.record.stage

/-- Whether the controller receives: from the end of STRAPS until the stages are switched off (R128, R135). -/
def State.receiving (s : State) : Bool :=
  s.strapped && !s.station.off

/-- Whether posts may join the queue: while the controller receives, but in MUTE (R128, R137). -/
def State.queueOpen (s : State) : Bool :=
  s.receiving && decide (s.station.state ≠ .mute)

/-- Whether the controller offers posts in this station state (R128, R137, R142). -/
def State.mayOffer (s : State) : Bool :=
  s.receiving && decide (s.station.state ≠ .mute) && decide (s.station.state ≠ .start)

/-- An ALERT is handed to the queue. -/
def State.handAlert (a : AlertContents) (s : State) : State :=
  if s.queueOpen then
    let r := s.line.takeAlert a
    (s.withLine r.1).countIf r.2 .txDrop
  else s

/-- A REPLY is handed to the queue. -/
def State.handReply (a : ReplyContents) (s : State) : State :=
  if s.queueOpen then
    let r := s.line.takeReply a
    (s.withLine r.1).countIf r.2 .txDrop
  else s

/-- An own STATE joins the queue, or is held by the unit while the waiting one is in transmission (R18). -/
def State.handState (p : OwnState) (s : State) : State :=
  if s.queueOpen then
    if s.line.sending = some .state ∧ s.line.state.isSome then s.withRound { s.round with held := some p }
    else
      let r := s.line.takeState p
      (s.withLine r.1).countIf r.2 .txDrop
  else s

/-! ### The log (R167 to R170) -/

/-- V_cell as a record or an ALERT shows it (R168). -/
def State.shownVCell (s : State) : Int :=
  match s.round.channels.vCell.held with
  | some v => v
  | none => ((s.start.cellCheck.map Prod.fst).getD 0 : Nat)

/-- The cell temperature as a record or an ALERT shows it (R168): −40.0 °C before any reading. -/
def State.shownTCell (s : State) : Int :=
  match s.round.channels.tCell.held with
  | some t => t
  | none => (s.start.cellCheck.map Prod.snd).getD (-80)

/-- The hinge temperature as a record shows it (R168). -/
def State.shownTHinge (s : State) : Int :=
  s.round.channels.tHinge.held.getD (-80)

/-- The snapshot of a first record (R168). -/
def State.snapshot (k : Kind) (s : State) : FaultRecord :=
  { kind := k, stamp := s.round.stamp, station := s.station.state, phase := s.charger.phase, port := s.port.port,
    link := s.hinge.link, vCell := s.shownVCell, tCell := s.shownTCell, tHinge := s.shownTHinge, drawMa := s.apply.drawMa,
    chargeMa := s.apply.chargeMa, linkMa := s.apply.linkMa, linkDir := directionOf s.apply.link }

/-- The ALERT of a logging event (R169). -/
def State.alertFor (k : Kind) (first : Bool) (s : State) : AlertContents :=
  { kind := k, first := first, station := s.station.state, stamp := s.round.stamp, vCell := s.shownVCell,
    tCell := s.shownTCell }

/-- The log of a class. -/
def FaultUnit.log (c : Class) (f : FaultUnit) : ClassLog :=
  match c with
  | .halting => f.halting
  | .degraded => f.degraded

/-- The fault unit with the log of a class replaced. -/
def FaultUnit.withLog (c : Class) (v : ClassLog) (f : FaultUnit) : FaultUnit :=
  match c with
  | .halting => { f with halting := v }
  | .degraded => { f with degraded := v }

/-- A kind added to a next set, in the order of kind numbers. -/
def insertKind (k : Kind) : List Kind → List Kind
  | [] => [k]
  | x :: xs => if k.number < x.number then k :: x :: xs else if k = x then x :: xs else x :: insertKind k xs

/-- The log of a class after a kind is logged, and FIRST or NEXT when that changes it (R167); `r` is the record that the
kind makes if it is the first. -/
def ClassLog.add (k : Kind) (r : FaultRecord) (log : ClassLog) : Option (ClassLog × Bool) :=
  match log.first with
  | none => some ({ log with first := some r }, true)
  | some old =>
    if old.kind = k ∨ k ∈ log.next then none else some ({ log with next := insertKind k log.next }, false)

/-- A kind is logged and reported (R167, R169, R170). No ALERT is handed for ADDRESS_CLASH, and none in MUTE. -/
def State.logKind (k : Kind) (s : State) : State :=
  match (s.fault.log k.severity).add k (s.snapshot k) with
  | none => s
  | some (log, first) =>
    let pin := s.fault.fltAsserted || decide (k.severity = .halting) || s.start.straps.degradedPin
    let s1 := s.withFault { s.fault.withLog k.severity log with fltAsserted := pin }
    if k = .addressClash then s1 else s1.handAlert (s.alertFor k first)

/-! ### Sweeps (R2, R3, R4) -/

/-- A sweep begins. -/
def State.beginSweep (s : State) : State :=
  { s with round := { s.round with inFlight := true }, hinge := s.hinge.sweepBegins }

/-- An early sweep is requested (R3): discarded in START and in SHELF, merged into a sweep in flight, and otherwise the
start of a sweep that reloads the round timer. -/
def State.requestSweep (s : State) : State :=
  if s.station.state = .start ∨ s.station.state = .shelf then s
  else if s.round.inFlight then s.withRound { s.round with earlyRequest := true }
  else (s.withRound { s.round with timer := some s.start.straps.period }).beginSweep

/-- An early sweep is requested when `b` holds. -/
def State.requestSweepIf (b : Bool) (s : State) : State :=
  if b then s.requestSweep else s

/-! ### Applied setpoints and their hand-over (R59, R60) -/

/-- A power as a current limit at the held reading of a channel: 0 where the channel is suspect or reads below 1000 mV. -/
def limitAt (c : Channel) (power : Nat) : Nat :=
  if !c.plausible || decide (c.value < 1000) then 0 else power * 1000 / c.value.toNat

/-- The draw limit of an applied draw. -/
def State.drawLimitOf (s : State) (g : Nat) : Nat :=
  min 3000 (limitAt s.round.channels.vIn g)

/-- The charge limit of an applied charge, at the held V_cell. -/
def State.chargeLimitOf (s : State) (c : Nat) : Nat :=
  c * 1000 / s.round.channels.vCell.value.toNat

/-- The link limit of an applied link. -/
def State.linkLimitOf (s : State) (x : Int) : Nat :=
  limitAt s.round.channels.vHinge x.natAbs

/-- The applied draw is converted and handed to the input port stage. -/
def State.handDraw (s : State) : State :=
  let ma := s.drawLimitOf s.apply.draw
  { s with apply := { s.apply with drawMa := ma }, port := { s.port with drawLimit := ma } }

/-- The applied charge is converted and handed to the charger. -/
def State.handCharge (s : State) : State :=
  let ma := s.chargeLimitOf s.apply.charge
  { s with
    apply := { s.apply with chargeMa := ma }
    charger := s.charger.hand s.station.state s.round.channels.vCell.value s.apply.charge ma }

/-- The applied link is converted and handed to the hinge link stage. -/
def State.handLink (s : State) : State :=
  let ma := s.linkLimitOf s.apply.link
  { s with apply := { s.apply with linkMa := ma }, hinge := s.hinge.hand s.apply.link ma }

/-- The applied draw becomes `g`; a change is converted and handed. -/
def State.setDraw (g : Nat) (s : State) : State :=
  if s.apply.draw = g then s else (s.withApply { s.apply with draw := g }).handDraw

/-- The applied charge becomes `c`; a change is converted and handed. -/
def State.setCharge (c : Nat) (s : State) : State :=
  if s.apply.charge = c then s else (s.withApply { s.apply with charge := c }).handCharge

/-- The applied link becomes `x`, signed as X; a change is converted and handed. -/
def State.setLink (x : Int) (s : State) : State :=
  if s.apply.link = x then s else (s.withApply { s.apply with link := x }).handLink

/-- The applied link after a proposal with link power `x` (R64): it may be lowered or opened, never raised. -/
def linkUnder (link x : Int) : Int :=
  if 0 < link ∧ 0 < x then min link x else if link < 0 ∧ x < 0 then max link x else 0

/-- A run's result replaces the proposal, and decreases are applied at once (R62 steps 1, 2 and 4, R63, R64). -/
def State.replaceProposal (r : Setting) (code : Nat) (s : State) : State :=
  let s1 := s.withApply { s.apply with proposal := r, code := code }
  let s2 := s1.setDraw (min s1.apply.draw r.g.toNat)
  let s3 := s2.setCharge (min s2.apply.charge r.c.toNat)
  s3.setLink (linkUnder s3.apply.link r.x)

/-- The applied link that a full link judgement finds (R67); an absent posted proposal is read as 0 (R61). -/
def State.judgedLink (s : State) : Int :=
  let own := (s.apply.posted.map Setting.x).getD 0
  let other := (s.partner.map Entry.x).getD 0
  let proposed := s.apply.proposal.x
  if s.station.state ≠ .paired ∨ s.apply.unansweredHold ∨ s.hinge.link = .barred then 0
  else if 0 < own ∧ other < 0 ∧ 0 < proposed then min own (min (-other) proposed)
  else if own < 0 ∧ 0 < other ∧ proposed < 0 then -(min (-own) (min other (-proposed)))
  else 0

/-- The full link judgement (R67). -/
def State.judgeLink (s : State) : State :=
  s.setLink s.judgedLink

/-! ### Changes of station state (R156) -/

/-- The station machine with another station state. -/
def State.become (st : StationState) (s : State) : State :=
  s.withStation { s.station with state := st }

/-- Entry into PAIRED: nothing changes at once, and an early sweep is requested (R73, R156). -/
def State.enterPaired (s : State) : State :=
  (s.become .paired).requestSweep

/-- PAIRED is left for SOLO: the link goes to 0 at once, and an early sweep is requested (R73, R156). -/
def State.leavePaired (s : State) : State :=
  ((s.become .solo).setLink 0).requestSweep

/-- The crowd mark follows the number of qualifying entries; its rise raises CROWD (R155). DEDUCED (notes/assumptions/37.md):
while PAIRED the kind is logged before the link is opened by R73, so its record shows the link as it stood. -/
def State.judgeCrowd (s : State) : State :=
  if 2 ≤ qualifying s.peers then
    if s.station.crowd then s else (s.withStation { s.station with crowd := true }).logKind .crowd
  else s.withStation { s.station with crowd := false }

/-- The partner judgement, and what it changes in SOLO and PAIRED (R155, R157). -/
def State.judgePartner (s : State) : State :=
  let s1 := s.judgeCrowd
  if s1.station.state = .solo ∧ s1.partner.isSome ∧ !s1.station.stuckHold then s1.enterPaired
  else if s1.station.state = .paired ∧ s1.partner = none then s1.leavePaired
  else s1

/-- Entry into LATCHED: every block acts in one event (R171). -/
def State.enterLatched (s : State) : State :=
  let wasPaired := decide (s.station.state = .paired)
  let s1 := s.withFault { s.fault with dischargeClosed := false }
  let s2 := (s1.setCharge 0).setLink 0
  let s3 := (s2.withCharger s2.charger.enterHoldOff).withPort s2.port.abortProbe
  ((s3.become .latched).requestSweepIf wasPaired).requestSweep

/-- What the logging of a HALTING kind does to the station (R171). -/
def State.haltingEffect (s : State) : State :=
  match s.station.state with
  | .solo => s.enterLatched
  | .paired => s.enterLatched
  | .latched => s
  | .start =>
    (s.withStation { s.station with latchPending := true }).withFault { s.fault with dischargeClosed := false }
  | .mute =>
    let s1 := (s.withFault { s.fault with dischargeClosed := false }).setCharge 0
    if s1.charger.phase = .holdOff then s1 else s1.withCharger s1.charger.enterHoldOff
  | .shelf => s.withFault { s.fault with dischargeClosed := false }

/-- A kind is raised: logged and reported, and a HALTING kind acts on the station (R163, R171). -/
def State.raise (k : Kind) (s : State) : State :=
  let s1 := s.logKind k
  if k.severity = .halting then s1.haltingEffect else s1

/-- The kinds of one event are raised in the order given, which is that of their numbers (R167, R168). -/
def State.raiseAll (ks : List Kind) (s : State) : State :=
  ks.foldl (fun s k => s.raise k) s

/-- Entry into MUTE from SOLO, PAIRED, LATCHED or START (R137, R161): the controller stops offering, abandons a
transmission and empties the queue; leaving PAIRED has its effects (R73). -/
def State.enterMute (s : State) : State :=
  let wasPaired := decide (s.station.state = .paired)
  let s1 := (s.become .mute).setLink 0
  let s2 := s1.withLine { s1.line.emptied with offering := false }
  let s3 := (s2.withRound { s2.round with held := none }).withApply { s2.apply with rewritePending := false }
  s3.requestSweepIf wasPaired

/-! ### The final STATE and switch-off (R142, R159) -/

/-- Whether the final STATE is still to be sent: it waits in the queue, or the round unit holds it. -/
def State.finalWaiting (s : State) : Bool :=
  (match s.line.state with
    | some q => q.post.final
    | none => false) ||
  (match s.round.held with
    | some p => p.final
    | none => false)

/-- The final STATE is removed as failed, a transmission of it abandoned (R142, R159). -/
def State.failFinal (s : State) : State :=
  let l := s.line
  let isFinal :=
    match l.state with
    | some q => q.post.final
    | none => false
  let l' : LineController :=
    if isFinal then { l with state := none, sending := if l.sending = some .state then none else l.sending } else l
  (s.withLine l').withRound { s.round with held := none }

/-- The stages are switched off (R159): the queue is emptied, the comparators are disarmed, the discharge switch opens and
the wake detectors are armed. -/
def State.switchOff (vIn : Nat) (s : State) : State :=
  { s with
    line := { s.line.emptied with offering := false, receiveBuffer := [] }
    round := { s.round with held := none }
    apply := { s.apply with rewritePending := false }
    port := s.port.switchOff s.start.straps.inputFitted vIn
    fault := { s.fault with dischargeClosed := false, armed := false }
    station := { s.station with shelfWait := none, off := true } }

/-- In SHELF, once the final STATE is sent or has failed, the stages are switched off (R142, R159). -/
def State.settleShelf (vIn : Nat) (s : State) : State :=
  if s.station.state = .shelf ∧ !s.station.off ∧ !s.finalWaiting then s.switchOff vIn else s

end Sys2Proof.Machine
end

