-- ==== Sys2Proof/Machine/Figures.lean ====
section
/-!
DEFINITION. The six figures and their marks (R9 to R14), the figure sets of a run (R37), and the composition of STATE posts
(R16, R19).
-/

namespace Sys2Proof.Machine

/-- S (R9). -/
def figureS (contract : Option Nat) (p : InputPort) : Nat :=
  match p.port with
  | .holding =>
    match contract with
    | some k => min k 30000
    | none => min 30000 (p.probed.getD 0 * p.attachMv.getD 0 / 1000)
  | .probing => min 30000 (p.step.getD 0 * p.attachMv.getD 0 / 1000)
  | .detached => 0
  | .absent => 0
  | .blocked => 0

/-- L (R10). -/
def figureL (c : Channels) : Nat :=
  min 30000 (c.vSys.value * c.iLoad.value / 1000).toNat

/-- Cmax (R12), on the held V_cell `v` and cell current `i`. -/
def figureCmax (p : Profile) (st : StationState) (v i : Int) (c : Charger) : Nat :=
  let current : Nat :=
    match c.offeredPhase st v with
    | .precharge => p.prechargeMa * chargeFactor c.band / 100
    | .bulk => p.ccMa * chargeFactor c.band / 100
    | .taper => max (i.toNat + i.toNat / 10) p.taperMa
    | .full => 0
    | .holdOff => 0
  min 20000 (current * v.toNat / 1000)

/-- Dmax (R13), on the held V_cell `v` and cell temperature `t2`. -/
def figureDmax (p : Profile) (st : StationState) (v t2 : Int) : Nat :=
  if v ≤ p.cutoffMv ∨ st = .latched then 0
  else min 20000 (p.maxDischargeMa * (if t2 < -40 then 25 else 100) / 100 * v.toNat / 1000)

/-- H (R14), on the held hinge temperature. -/
def figureH (hingeClass : Nat) (tHinge : Channel) (fold : FoldState) (link : LinkState) : Nat :=
  let t2 := tHinge.value
  let base : Nat :=
    if !tHinge.plausible then hingeClass / 4
    else if t2 ≤ 90 then hingeClass
    else if t2 < 120 then (hingeClass * (120 - t2) / 30).toNat
    else 0
  let moved := if fold = .moving then base / 2 else base
  if link = .barred then 0 else moved

/-- The six figures at step 6 of a sweep's completion (R5). -/
def State.deriveFigures (s : State) : Figures :=
  let ch := s.round.channels
  let st := s.station.state
  { s := figureS s.policy.contract s.port
    l := figureL ch
    q := s.gauge.q
    cmax := figureCmax s.profile st ch.vCell.value ch.iCell.value s.charger
    dmax := figureDmax s.profile st ch.vCell.value ch.tCell.value
    h := figureH s.start.straps.hingeClass ch.tHinge s.round.fold s.hinge.link }

/-- The marks of the figures at step 6 of a sweep's completion (R7). -/
def State.deriveMarks (s : State) : Marks :=
  marksOf s.round.channels s.port.port

/-- The own last unsuspect L after step 6 (R10). -/
def State.recordL (f : Figures) (m : Marks) (s : State) : State :=
  if m.l then s else s.withRound { s.round with lastL := some f.l }

/-- The own figure set of a composition run (R37). -/
def State.sweepSet (f : Figures) (m : Marks) (s : State) : FigureSet :=
  { address := s.start.straps.address.toNat, figures := f, marks := m, balance := s.policy.balance,
    barred := s.hinge.link = .barred, lastL := s.round.lastL }

/-- The own figure set of an arrival run (R37). -/
def State.composedSet (c : StateContents) (s : State) : FigureSet :=
  { address := s.start.straps.address.toNat, figures := c.figures, marks := c.marks, balance := c.balance,
    barred := c.link = .barred, lastL := s.round.lastL }

/-- The partner's figure set (R37). -/
def Entry.figureSet (e : Entry) : FigureSet :=
  { address := e.address.toNat, figures := e.figures, marks := e.marks, balance := e.balance, barred := e.link = .barred,
    lastL := e.lastL }

/-- A run of the station: in the paired form when PAIRED, otherwise in the solo form (R38, R40). -/
def State.run (own : FigureSet) (s : State) : Allotted × OutcomeFlags :=
  match s.station.state, s.partner with
  | .paired, some e => runWith own e.figureSet
  | _, _ => soloRun own

/-- A run's flags are added to the accrued set (R56). -/
def State.accrue (f : OutcomeFlags) (s : State) : State :=
  s.withAccrued (s.accrued.add f)

/-- The STATE contents composed at step 8 of a sweep's completion (R16): `phase` is the charger phase after step 5. -/
def State.compose (f : Figures) (m : Marks) (phase : Phase) (r : Setting) (code : Nat) (s : State) : StateContents :=
  { seq := s.round.seq, station := s.station.state, phase := phase, port := s.port.port, fold := s.round.fold,
    link := s.hinge.link, balance := s.policy.balance, code := code, marks := m, figures := f, setting := r }

/-- The contents of the final STATE (R19, R159). -/
def State.composeFinal (s : State) : StateContents :=
  let f : Figures := (s.round.composed.map StateContents.figures).getD { s := 0, l := 0, q := 0, cmax := 0, dmax := 0, h := 0 }
  let m : Marks := (s.round.composed.map StateContents.marks).getD Marks.noMarks
  { seq := s.round.seq, station := .shelf, phase := s.charger.phase, port := s.port.port, fold := s.round.fold,
    link := s.hinge.link, balance := s.policy.balance, code := 0, marks := m, figures := f, setting := .zero }

/-- A composed STATE is recorded as the own composed contents (R16). -/
def State.recordComposed (c : StateContents) (s : State) : State :=
  s.withRound { s.round with composed := some c }

end Sys2Proof.Machine
end

