-- ==== Sys2Proof/Machine/Posts.lean ====
section
/-!
DEFINITION. The posts a P42 sends, as bytes (R143, R144), the content bytes of its REPLY posts (R181), and what the part shows
at its pins and power stages (R81, R98, R108, R114).
-/

namespace Sys2Proof.Machine

/-- The post that own STATE contents are sent as (R143). -/
def StateContents.post (c : StateContents) : StatePost :=
  { seq := BitVec.ofNat 8 c.seq, station := BitVec.ofNat 8 c.station.code, phase := BitVec.ofNat 4 c.phase.code,
    port := BitVec.ofNat 4 c.port.code, fold := BitVec.ofNat 2 c.fold.code, link := BitVec.ofNat 2 c.link.code,
    balance := c.balance, outcome := BitVec.ofNat 3 c.code, marks := c.marks, s := BitVec.ofNat 16 c.figures.s,
    l := BitVec.ofNat 16 c.figures.l, q := BitVec.ofNat 16 c.figures.q, cmax := BitVec.ofNat 16 c.figures.cmax,
    dmax := BitVec.ofNat 16 c.figures.dmax, h := BitVec.ofNat 16 c.figures.h, g := BitVec.ofInt 16 c.setting.g,
    c := BitVec.ofInt 16 c.setting.c, x := BitVec.ofInt 16 c.setting.x }

/-- The 12 bytes of an ALERT post (R144). -/
def AlertContents.bytes (own : BitVec 3) (a : AlertContents) : List Byte :=
  withCrc <|
    [header 0 own.toNat, byteOfNat a.kind.number, byteOfNat a.kind.severity.code, if a.first then 1 else 0,
      byteOfNat a.station.code] ++
    bytes3 a.stamp ++ bytes2 a.vCell.toNat ++ [temperatureByte a.tCell]

/-- The 22 bytes of a REPLY post (R144). -/
def ReplyContents.bytes (own : BitVec 3) (r : ReplyContents) : List Byte :=
  withCrc <| [header 4 own.toNat, r.item, byteOfNat r.status.code] ++ r.content

/-- The bytes of the post whose transmission is running, if one is (R134). -/
def State.transmitted (s : State) : Option (List Byte) :=
  let own := s.start.straps.address
  match s.line.sending with
  | none => none
  | some .alert => s.line.alerts.head?.map fun q => q.post.bytes own
  | some .state => s.line.state.map fun q => encodeState own q.post.contents.post
  | some .reply => s.line.replies.head?.map fun q => q.post.bytes own

/-! ### Content bytes of REPLY posts (R181) -/

/-- Content bytes filled up with zeros to 18. -/
def contentBytes (bs : List Byte) : List Byte :=
  bs ++ List.replicate (18 - bs.length) 0

/-- READ_FIRST. -/
def FaultRecord.content (r : FaultRecord) : List Byte :=
  contentBytes <|
    [byteOfNat r.kind.number, byteOfNat r.kind.severity.code] ++ bytes3 r.stamp ++
    [byteOfNat r.station.code, byteOfNat (16 * r.phase.code + r.port.code),
      byteOfNat (64 * r.link.code + r.linkDir.code)] ++
    bytes2 r.vCell.toNat ++ [temperatureByte r.tCell, temperatureByte r.tHinge] ++
    bytes2 r.drawMa ++ bytes2 r.chargeMa ++ bytes2 r.linkMa

/-- One bit of the READ_NEXT content, of the weight given. -/
def kindBit (next : List Kind) (number weight : Nat) : Nat :=
  if next.any fun k => k.number = number then weight else 0

/-- READ_NEXT: kinds `low` to `low + 7`, bit 0 to bit 7. -/
def kindsByte (next : List Kind) (low : Nat) : Byte :=
  byteOfNat ((List.range 8).map fun i => kindBit next (low + i) (2 ^ i)).sum

/-- READ_NEXT. -/
def nextContent (next : List Kind) : List Byte :=
  contentBytes [kindsByte next 1, kindsByte next 9, kindsByte next 17]

/-- A counter with its flag in one byte. -/
def Counter.byte (c : Counter) : Byte :=
  byteOfNat (c.value + if c.overflow then 128 else 0)

/-- READ_COUNTERS. -/
def FaultUnit.countersContent (f : FaultUnit) : List Byte :=
  contentBytes [f.line.byte, f.link.byte, f.allot.byte, f.gauge.byte]

/-- READ_FLAGS. -/
def flagsContent (f : OutcomeFlags) : List Byte :=
  contentBytes [f.byte]

/-- READ_PROFILE, with the capacity in use. -/
def profileContent (n : Fin 9) (capacity : Nat) : List Byte :=
  let p := profileRow n
  let w := p.idWindow.getD (0, 0)
  contentBytes <|
    [byteOfNat n.val] ++ bytes2 p.capacity ++ bytes2 p.chargeMv ++ bytes2 p.ccMa ++ [byteOfNat p.taperMa] ++
    bytes2 p.maxDischargeMa ++ bytes2 p.cutoffMv ++ [byteOfNat (w.1 / 5), byteOfNat (w.2 / 5), byteOfNat (p.limitMin / 10)] ++
    bytes2 capacity

/-- The profile field as it is taken after any fallback (R152): 0 for a level of 9 to 15. -/
def Straps.profileFieldTaken (st : Straps) : Nat :=
  if st.profileField.val ≤ 8 then st.profileField.val else 0

/-- READ_START. -/
def StartSequencer.content (q : StartSequencer) : List Byte :=
  let r := q.record
  let level (n : Nat) : Nat := ((r.levels[n]?).getD 0).val
  contentBytes <|
    [byteOfNat r.stage, byteOfNat r.strapsResult.code, byteOfNat r.profileResult.code, byteOfNat r.cellCheckResult.code,
      byteOfNat r.listenResult.code, byteOfNat ((r.profile.map Fin.val).getD 255),
      byteOfNat (16 * level 0 + level 1), byteOfNat (16 * level 2 + level 3), byteOfNat q.straps.address.toNat,
      if q.straps.inputFitted then 1 else 0, byteOfNat q.straps.profileFieldTaken] ++
    bytes2 q.straps.hingeClass ++ bytes2 q.straps.period ++
    [if q.straps.foldFitted then 1 else 0, if q.straps.degradedPin then 1 else 0]

/-! ### What the part shows at its power stages and pins -/

/-- Whether the hinge link stage is powered: from the start of STRAPS until switch-off (R81, R94). -/
def State.hingePowered (s : State) : Bool :=
  s.pins.resetNHigh && !s.station.off

/-- Whether the rail keeper is on (R81, R83). -/
def State.keeperOn (s : State) : Bool :=
  s.hingePowered && (s.hinge.link = .opened || s.hinge.link = .barred)

/-- Whether the regulated path of the hinge link stage is on (R81). -/
def State.linkPathOn (s : State) : Bool :=
  s.hingePowered && (s.hinge.link = .send || s.hinge.link = .receive)

/-- The most current the input port stage draws (R108). -/
def State.inputMa (s : State) : Nat :=
  if s.port.switchClosed then s.port.currentBound s.policy.contract else 0

/-- The most current the charger charges with (R114). -/
def State.chargingMa (s : State) : Nat :=
  if s.charger.pathOn && !s.station.off then s.charger.currentBound s.profile else 0

/-- The level of the FLT pin: low while asserted (R162, R170). -/
def State.fltLow (s : State) : Bool :=
  s.fault.fltAsserted

end Sys2Proof.Machine
end

