-- ==== Sys2Proof/Machine/Start.lean ====
section
/-!
DEFINITION. Resets and the start (R146 to R152, R22 to R27, R99): POWER_ON_RESET, WARM_RESET, RESET_N_RISE, STRAPS_COMPLETE,
PROFILE_COMPLETE, CELL_CHECK_COMPLETE, LISTEN_END.
-/

namespace Sys2Proof.Machine

/-- What a meaning answers: the next state of the step. -/
abbrev Answer := Host.Outcome State Fault Refusal

/-- The values of a warm reset and of exit from SHELF, which are alike (R160): the gauge keeps count, residue and capacity
(R27), the fault unit its log and counters (R162), the start sequencer the profile in use until PROFILE (R24). -/
def State.warmValues (s : State) : State :=
  { State.reset with
    pending := s.pending
    clock := s.clock
    gauge := s.gauge.warm
    start := { StartSequencer.reset with profile := s.start.profile }
    fault :=
      { FaultUnit.reset with
        halting := s.fault.halting, degraded := s.fault.degraded, line := s.fault.line, link := s.fault.link,
        allot := s.fault.allot, gauge := s.fault.gauge }
    pins := s.pins }

/-- Exit from SHELF: every block takes its values and a start begins (R148, R160). -/
def State.wake (s : State) : State :=
  s.warmValues

/-- POWER_ON_RESET (R148): every block takes its power-on values and the start begins. -/
def execPowerOnReset (s : State) : Answer :=
  .next { State.reset with pending := s.pending, clock := s.clock }

/-- WARM_RESET (R148): every block takes its warm-reset values at once; the start is held while RESET_N is low. -/
def execWarmReset (s : State) : Answer :=
  .next (s.warmValues.withPins { s.pins with resetNHigh := false })

/-- RESET_N_RISE (R148): the start begins at STRAPS, with its record cleared (R152). -/
def execResetNRise (s : State) : Answer :=
  .next <|
    if s.pins.resetNHigh then s
    else (s.withPins { s.pins with resetNHigh := true }).withStart { s.start with record := .cleared }

/-- Whether the start runs the stage numbered (R148, R152). -/
def State.atStage (n : Nat) (s : State) : Bool :=
  decide (s.station.state = .start) && decide (s.start.record.stage = n) && s.pins.resetNHigh

/-- The STRAPS stage ends (R147): the decoded values take effect, and an invalid field raises STRAP_INVALID. -/
def State.endStraps (s0 s1 s2 s3 : Fin 16) (foldHigh : Bool) (s : State) : State :=
  let straps := decodeStraps s0 s1 s2 s3
  let invalid := strapsInvalid s0 s1 s2
  let record : StartRecord :=
    { s.start.record with
      stage := 2, strapsResult := if invalid then .fallback else .ok, levels := [s0, s1, s2, s3] }
  let fold : FoldState := if straps.foldFitted then (if foldHigh then .opened else .closed) else .none
  let s' : State :=
    { s with
      start := { s.start with straps := straps, record := record }
      port := s.port.settle straps.inputFitted
      round := { s.round with fold := fold }
      pins := { s.pins with foldHigh := foldHigh } }
  if invalid then s'.raise .strapInvalid else s'

/-- STRAPS_COMPLETE (R147, R99, R15). -/
def execStrapsComplete (s0 s1 s2 s3 : Fin 16) (foldHigh : Bool) (s : State) : Answer :=
  .next (if s.atStage 1 then s.endStraps s0 s1 s2 s3 foldHigh else s)

/-- The PROFILE stage ends (R22, R23, R26): the profile in use is chosen, the comparators are armed, after a power-on reset
the gauge is initialised, and a pack that matches no window under AUTO raises PROFILE_FALLBACK. -/
def State.endProfile (packId vCell : Nat) (s : State) : State :=
  let choice := chooseProfile s.start.straps.profileField packId
  let record : StartRecord :=
    { s.start.record with stage := 3, profileResult := choice.2, profile := some choice.1 }
  let gauge := if s.gauge.initPending then s.gauge.initialise (profileRow choice.1).capacity vCell else s.gauge
  let s' : State :=
    { s with
      start := { s.start with profile := choice.1, record := record }
      gauge := gauge
      fault := { s.fault with armed := true } }
  if s.start.straps.profileField = 0 ∧ choice.2 = .fallback then s'.raise .profileFallback else s'

/-- PROFILE_COMPLETE (R22, R23, R26). -/
def execProfileComplete (packId vCell : Nat) (s : State) : Answer :=
  .next (if s.atStage 2 then s.endProfile packId vCell else s)

/-- Whether CELL_CHECK passes (R149). -/
def cellCheckPasses (p : Profile) (vCell : Nat) (tCell : Int) : Bool :=
  p.deepMv ≤ vCell && vCell ≤ p.overvoltMv && decide (-40 ≤ tCell) && decide (tCell ≤ 120)

/-- The CELL_CHECK stage ends (R149), and LISTEN begins, for two strapped round periods (R150). -/
def State.endCellCheck (vCell : Nat) (tCell : Int) (s : State) : State :=
  let passes := cellCheckPasses s.profile vCell tCell
  let record : StartRecord :=
    { s.start.record with stage := 4, cellCheckResult := if passes then .ok else .failed }
  let s' := s.withStart
    { s.start with record := record, cellCheck := some (vCell, tCell), listenLeft := some (2 * s.start.straps.period) }
  if passes then s' else s'.raise .startCell

/-- CELL_CHECK_COMPLETE (R149). -/
def execCellCheckComplete (vCell : Nat) (tCell : Int) (s : State) : Answer :=
  .next (if s.atStage 3 then s.endCellCheck vCell tCell else s)

/-- The station state entered at READY (R151 step 1). -/
def State.enterReady (s : State) : State :=
  let s1 := s.withStation { s.station with latchPending := false, mutePending := false }
  if s.station.mutePending then s1.enterMute
  else if s.station.latchPending then s1.enterLatched
  else s1.become .solo

/-- READY (R151): the station leaves START, the round timer starts with an early sweep, offering begins, and in SOLO the
partner is judged. -/
def State.ready (s : State) : State :=
  let s1 := s.enterReady
  let s2 := (s1.withRound { s1.round with timer := some s1.start.straps.period }).requestSweep
  let s3 := s2.withLine { s2.line with offering := s2.mayOffer && !s2.line.stuck }
  if s3.station.state = .solo then s3.judgePartner else s3

/-- The LISTEN stage ends (R150), and READY follows in the same event. -/
def State.endListen (s : State) : State :=
  let s1 := s.advance (s.start.listenLeft.getD 0)
  let record : StartRecord :=
    { s1.start.record with stage := 5, listenResult := if s1.station.mutePending then .failed else .ok }
  (s1.withStart { s1.start with record := record, listenLeft := none }).ready

/-- LISTEN_END (R150, R151). -/
def execListenEnd (s : State) : Answer :=
  .next (if s.atStage 4 then s.endListen else s)

end Sys2Proof.Machine
end

