-- ==== Sys2Proof/Machine/Rounds.lean ====
section
/-!
DEFINITION. Rounds and the fold window (R2, R15, R90, R154): OWN_ROUND_EXPIRY, FOLD_EDGE, FOLD_WINDOW_EXPIRY.
-/

namespace Sys2Proof.Machine

/-- The peer table and the station machine at an own round (R154, R155): aging, PARTNER_LOST, the partner judgement. DEDUCED
(notes/assumptions/37.md): PARTNER_LOST is logged before the link is opened by R73, so its record shows the link as it
stood. -/
def State.agePeers (s : State) : State :=
  let lost := decide (s.station.state = .paired) && partnerGoesStale s.peers
  let s1 := s.withPeers (ageEntries s.peers)
  (if lost then s1.logKind .partnerLost else s1).judgePartner

/-- The hinge link stage at an own round (R90): the end of a barring brings a full link judgement. -/
def State.hingeRound (s : State) : State :=
  let r := s.hinge.ownRound
  let s1 := s.withHinge r.1
  if r.2 then s1.judgeLink else s1

/-- A sweep begins if none is in flight (R2). -/
def State.beginSweepIfNone (s : State) : State :=
  if s.round.inFlight then s else s.beginSweep

/-- An own round (R2): the stamp counts, the timer is reloaded, the peer table and the hinge link stage take the round, and
a sweep begins if none is in flight. -/
def State.ownRound (s : State) : State :=
  let s1 := s.withRound
    { s.round with timer := some s.start.straps.period, stamp := (s.round.stamp + 1) % 16777216 }
  s1.agePeers.hingeRound.beginSweepIfNone

/-- OWN_ROUND_EXPIRY (R2): the time left on the round timer has passed. -/
def execOwnRoundExpiry (s : State) : Answer :=
  .next <|
    match s.round.timer with
    | none => s
    | some left => (s.advance left).ownRound

/-- The fold state at the level of the pin (R15). -/
def State.foldOfPin (s : State) : FoldState :=
  if s.pins.foldHigh then .opened else .closed

/-- An edge on FOLD with the sensor fitted and the stages on (R15). -/
def State.foldMotion (s : State) : State :=
  let starts := decide (s.round.fold ≠ .moving)
  (s.withRound { s.round with fold := .moving, foldWindow := some 2000 }).requestSweepIf starts

/-- FOLD_EDGE (R15); after switch-off in SHELF it is the wake event (R160). -/
def execFoldEdge (rising : Bool) (s : State) : Answer :=
  let s1 := s.withPins { s.pins with foldHigh := rising }
  .next <|
    if !s.start.straps.foldFitted then s1
    else if s.station.off then s1.wake
    else s1.foldMotion

/-- FOLD_WINDOW_EXPIRY (R15): the time left of the window has passed. -/
def execFoldWindowExpiry (s : State) : Answer :=
  .next <|
    match s.round.foldWindow with
    | none => s
    | some left =>
      let s1 := s.advance left
      (s1.withRound { s1.round with fold := s1.foldOfPin, foldWindow := none }).requestSweep

end Sys2Proof.Machine
end

