-- ==== Sys2Proof/Machine/Sweep.lean ====
section
/-!
DEFINITION. The completion of a sweep (R5 to R14, R16, R38): SWEEP_COMPLETE.
-/

namespace Sys2Proof.Machine

/-- The held readings and the plausibility of every channel are set from the sweep (R6, R7, R8). -/
def State.takeReadings (r : Readings) (s : State) : State :=
  s.withRound { s.round with channels := s.round.channels.judge s.start.straps.inputFitted r }

/-- Step 1 of R5: the gauge (R29). -/
def State.sweepGauge (moment : Nat) (s : State) : State :=
  let ch := s.round.channels
  let r := s.gauge.sweep s.profile.cutoffMv ch.iCell.plausible ch.iCell.value ch.vCell.value moment
  (s.withGauge r.1).countIf r.2 .gaugeClip

/-- The gauge's part of an entry into FULL (R34). -/
def State.gaugeFull (s : State) : State :=
  let r := s.gauge.full s.profile.capacity
  (s.withGauge r.1).countIf r.2 .learnReject

/-- Step 2 of R5: the charger (R118), with the recalibration at FULL (R34). The second part says that a safety timer has
expired, which the fault unit holds until step 5 (R166). -/
def State.sweepCharger (interval : Nat) (s : State) : State × Bool :=
  let ch := s.round.channels
  let r := s.charger.sweep s.profile s.station.state s.policy.ceiling s.gauge.q ch.iCell.plausible ch.iCell.value
    ch.vCell.value ch.tCell.value interval
  let s1 := s.withCharger r.1
  (if s.charger.phase ≠ .full ∧ r.1.phase = .full then s1.gaugeFull else s1, r.2)

/-- Step 3 of R5: the input port stage. -/
def State.sweepPort (s : State) : State :=
  let r := s.port.sweep s.policy.contract (decide (s.station.state = .latched)) s.round.channels.vIn
  (s.withPort r.1).requestSweepIf r.2

/-- Step 4 of R5: the unanswered check, and an unanswered link (R85, R86, R71). -/
def State.sweepHinge (s : State) : State :=
  let r := s.hinge.check s.round.channels.iHinge
  let s1 := s.withHinge r.1
  if r.2 then
    let s2 := s1.count .linkUnanswered
    (s2.withApply { s2.apply with unansweredHold := true }).setLink 0
  else s1

/-- The kinds of step 5 of R5, in the order of their numbers (R166). -/
def State.sweepKinds (timeout suspect : Bool) (s : State) : List Kind :=
  let ch := s.round.channels
  (if 120 < ch.tCell.value then [Kind.cellHot] else []) ++
  (if ch.vCell.value < s.profile.deepMv then [Kind.cellDeep] else []) ++
  (if timeout then [Kind.chargeTimeout] else []) ++
  (if suspect then [Kind.sensorSuspect] else [])

/-- The conversions at the completion of each sweep (R59), each handed to its stage. -/
def State.handAll (s : State) : State :=
  s.handDraw.handCharge.handLink

/-- Steps 6 to 8 of R5: figures, the composition run and the STATE post; `phase` is the charger phase after step 5. -/
def State.sweepCompose (phase : Phase) (s : State) : State :=
  let f := s.deriveFigures
  let m := s.deriveMarks
  let s1 := s.recordL f m
  let run := s1.run (s1.sweepSet f m)
  let code := run.2.code
  let s2 := (s1.replaceProposal run.1.setting code).accrue run.2
  let s3 := if 0 < run.1.shortfall then s2.raise .loadShortfall else s2
  let s4 := (s3.countIf run.2.unordered .allotUnordered).handAll
  let c := s4.compose f m phase run.1.setting code
  (s4.recordComposed c).handState { contents := c, final := false }

/-- The sweep-in-flight state returns to no, and a pending request is cleared (R5). -/
def State.endSweep (s : State) : State :=
  s.withRound { s.round with inFlight := false, earlyRequest := false }

/-- The completion of a sweep, step by step (R5). -/
def State.completeSweep (r : Readings) (s : State) : State :=
  let moment := s.clock - r.lag
  let interval := s.gauge.interval moment
  let s0 := s.takeReadings r
  let suspect := s.round.channels.newlySuspect s0.round.channels
  let (s2, timeout) := (s0.sweepGauge moment).sweepCharger interval
  let s4 := s2.sweepPort.sweepHinge
  let s5 := s4.raiseAll (s4.sweepKinds timeout suspect)
  (s5.sweepCompose s5.charger.phase).endSweep

/-- SWEEP_COMPLETE (R5): the sweep in flight completes. -/
def execSweepComplete (r : Readings) (s : State) : Answer :=
  .next (if s.round.inFlight then s.completeSweep r else s)

end Sys2Proof.Machine
end

