-- ==== Sys2Proof/Machine/Arrivals.lean ====
section
/-!
DEFINITION. Posts heard whose effect is on the peer table, the station machine and the apply unit (R135, R137, R153, R157,
R39, R65, R68): STATE_ARRIVAL, ADDRESS_CLASH, INVALID_POST, DISCARDED_POST.
-/

namespace Sys2Proof.Machine

/-- The end of a post heard: the receive buffer has been taken (R130, R135). -/
def State.endReception (s : State) : State :=
  s.withLine { s.line with receiveBuffer := [], idleUs := 0, lowUs := 0 }

/-- An own STATE with the G, C, X and outcome code of a run (R65). -/
def OwnState.rewritten (r : Setting) (code : Nat) (p : OwnState) : OwnState :=
  { p with contents := { p.contents with setting := r, code := code } }

/-- The own STATE post is served after an arrival run (R65): a waiting one is rewritten, or the rewrite waits for the end of
its transmission; a held one is rewritten in any case. -/
def State.servePost (r : Setting) (code : Nat) (s : State) : State :=
  let s1 := s.withRound { s.round with held := s.round.held.map (OwnState.rewritten r code) }
  match s1.line.state with
  | none => s1
  | some q =>
    if s1.line.sending = some .state then s1.withApply { s1.apply with rewritePending := true }
    else s1.withLine { s1.line with state := some { q with post := q.post.rewritten r code } }

/-- The arrival run on the own composed contents `c` (R39): the proposal is replaced, the flags are added, the waiting post
is served, and a run that set UNORDERED is counted (R58). -/
def State.arrivalRun (c : StateContents) (s : State) : State :=
  let run := s.run (s.composedSet c)
  let code := run.2.code
  (((s.replaceProposal run.1.setting code).accrue run.2).servePost run.1.setting code).countIf run.2.unordered
    .allotUnordered

/-- The arrival run where the arrival leads to one: PAIRED, with own composed contents (R39). -/
def State.arrivalRunIfDue (s : State) : State :=
  match s.round.composed with
  | none => s
  | some c => if s.station.state = .paired then s.arrivalRun c else s

/-- What the apply unit does at a partner's arrival, and at one that has ended the pairing (R68). -/
def State.serveArrival (s : State) : State :=
  (s.withApply { s.apply with unansweredHold := false }).arrivalRunIfDue.judgeLink

/-- Steps 1 to 3 of R157: the entry is written, with the seq checked, stuck hold is cleared, and the partner is judged. -/
def State.takeEntry (source : BitVec 3) (post : StatePost) (st : StationState) (s : State) : State :=
  let before := entryAt source s.peers
  let s1 := s.countIf (seqGap post.seq before) .lineGap
  let s2 := s1.withPeers (writeEntry (entryOf source post st (before.bind Entry.lastL)) s1.peers)
  (s2.withStation { s2.station with stuckHold := false }).judgePartner

/-- Whether the arrival is served by the apply unit (R68): from the station that is the partner once it has been taken, or
having ended the pairing. -/
def State.servedArrival (source : BitVec 3) (wasPaired : Bool) (s : State) : Bool :=
  decide (s.partner.map Entry.address = some source) || (wasPaired && decide (s.station.state ≠ .paired))

/-- A valid STATE post of another P42 (R153, R157). -/
def State.takeArrival (source : BitVec 3) (post : StatePost) (s : State) : State :=
  match stationOfCode post.station with
  | none => s.count .lineCrc
  | some st =>
    if fieldsComposable post then
      let wasPaired := decide (s.station.state = .paired)
      let s1 := s.takeEntry source post st
      if s1.servedArrival source wasPaired then s1.serveArrival else s1
    else s.count .lineCrc

/-- The station machine takes an address clash (R161, R156). -/
def State.clash (s : State) : State :=
  match s.station.state with
  | .start => s.withStation { s.station with mutePending := true }
  | .solo => s.enterMute
  | .paired => s.enterMute
  | .latched => s.enterMute
  | .shelf => s
  | .mute => s

/-- A valid post with the own address (R137). -/
def State.takeClash (s : State) : State :=
  (s.endReception.raise .addressClash).clash

/-- ADDRESS_CLASH (R137). -/
def execAddressClash (s : State) : Answer :=
  .next (if s.receiving then s.takeClash else s)

/-- STATE_ARRIVAL (R153). A post from the own address is an address clash, and one from address 7 is discarded (R135). -/
def execStateArrival (source : BitVec 3) (post : StatePost) (vIn : Nat) (s : State) : Answer :=
  .next <|
    if !s.receiving then s
    else if source = s.start.straps.address then s.takeClash
    else if source = 7 then s.endReception
    else (s.endReception.takeArrival source post).settleShelf vIn

/-- INVALID_POST (R135): discarded and counted. Bits that make a valid post are no such event. -/
def execInvalidPost (bits : List Bool) (s : State) : Answer :=
  .next (if s.receiving then s.endReception.countIf (validPost bits).isNone .lineCrc else s)

/-- DISCARDED_POST (R135): a valid post the station does not take is discarded without count. -/
def execDiscardedPost (_bits : List Bool) (s : State) : Answer :=
  .next (if s.receiving then s.endReception else s)

end Sys2Proof.Machine
end

