-- ==== Sys2Proof/Machine/Orders.lean ====
section
/-!
DEFINITION. LIMIT posts and their orders (R176 to R178, R107, R70, R75, R92, R110, R126, R159, R172): LIMIT, SHELF_ORDER,
RELEASE.
-/

namespace Sys2Proof.Machine

/-! ### The SHELF order -/

/-- The final STATE is composed and queued; one composed while the line is stuck fails at once (R19, R142). -/
def State.queueFinal (s : State) : State :=
  let c := s.composeFinal
  let s1 := s.recordComposed c
  if s1.line.stuck then s1 else s1.handState { contents := c, final := true }

/-- Entry into SHELF (R159): the sweep in flight is abandoned and the round timer stops, the apply unit, the charger, the
input port stage and the hinge link stage take their entry effects (R75, R126, R111, R93), the shelf wait starts and the
final STATE is composed. -/
def State.enterShelf (s : State) : State :=
  let s1 := (s.become .shelf).withRound { s.round with inFlight := false, earlyRequest := false, timer := none }
  let s2 := s1.withApply { s1.apply with proposal := .zero, code := 0 }
  let s3 := ((s2.setDraw 0).setCharge 0).setLink 0
  let s4 := (s3.withCharger s3.charger.enterHoldOff).withPort s3.port.abortProbe
  (s4.withStation { s4.station with shelfWait := some 0 }).queueFinal

/-- Whether the station is SOLO or PAIRED. -/
def State.serving (s : State) : Bool :=
  decide (s.station.state = .solo) || decide (s.station.state = .paired)

/-- The SHELF order as it is routed (R178). -/
def State.shelfOrder (vIn : Nat) (s : State) : State :=
  if s.serving then s.enterShelf.settleShelf vIn else s

/-! ### The RELEASE order -/

/-- The hinge link stage is released (R92): the barring and the trip history are cleared, and a barring cleared brings a
full link judgement. -/
def State.releaseHinge (s : State) : State :=
  let r := s.hinge.release
  let s1 := s.withHinge r.1
  if r.2 then s1.judgeLink else s1

/-- Whether the fault unit accepts a RELEASE (R172), on the latest completed sweep since the last start; before one has
completed no channel holds a reading. -/
def State.releaseAccepted (s : State) : Bool :=
  let v := s.round.channels.vCell
  let t := s.round.channels.tCell
  v.held.isSome && t.held.isSome && v.plausible && t.plausible &&
    decide ((s.profile.deepMv : Int) ≤ v.value) && decide (v.value ≤ s.profile.overvoltMv) && decide (t.value ≤ 110) &&
    !s.fault.overvoltAsserted && !s.fault.overcurrentAsserted

/-- An accepted RELEASE (R172, R158, R126, R92, R110). -/
def State.leaveLatched (s : State) : State :=
  let s1 := s.withFault { s.fault with dischargeClosed := true }
  let s2 := ((s1.become .solo).requestSweep).judgePartner
  let s3 := (s2.withCharger s2.charger.released).releaseHinge
  s3.withPort (s3.port.released s3.policy.contract)

/-- The RELEASE order as it is routed (R178). -/
def State.releaseOrder (s : State) : State :=
  match s.station.state with
  | .start => s
  | .solo => s.releaseHinge
  | .paired => s.releaseHinge
  | .latched => if s.releaseAccepted then s.leaveLatched else s
  | .shelf => s
  | .mute => s

/-! ### LIMIT -/

/-- Step 1 of R176: the contract is stored and handed to the input port stage, and lowers the applied draw (R107, R70). -/
def State.storeContract (contract : Option Nat) (s : State) : State :=
  let s1 := s.withPolicy { s.policy with contract := contract }
  let s2 := s1.withPort (s1.port.takeContract contract (decide (s1.station.state = .latched)))
  match contract with
  | none => s2
  | some k => s2.setDraw (min s2.apply.draw k)

/-- The order of a LIMIT goes to the block that owns it (R178). -/
def State.routeOrder (o : Order) (vIn : Nat) (s : State) : State :=
  match o with
  | .none => s
  | .shelf => s.shelfOrder vIn
  | .release => s.releaseOrder

/-- An addressed LIMIT (R176). -/
def State.takeLimit (post : LimitPost) (vIn : Nat) (s : State) : State :=
  let s1 := s.storeContract (contractStored post.contract)
  let s2 := s1.withPolicy
    { s1.policy with ceiling := ceilingStored post.ceiling, balance := balanceStored post.balance }
  s2.requestSweep.routeOrder (orderStored post.order) vIn

/-- LIMIT (R176): taken when it is addressed to the station, otherwise discarded. -/
def execLimit (post : LimitPost) (vIn : Nat) (s : State) : Answer :=
  .next <|
    if !s.receiving then s
    else if addressed s.start.straps.address post.target then s.endReception.takeLimit post vIn
    else s.endReception

/-- SHELF_ORDER (R178, R159). -/
def execShelfOrder (vIn : Nat) (s : State) : Answer :=
  .next (s.shelfOrder vIn)

/-- RELEASE (R178, R172, R92). -/
def execRelease (s : State) : Answer :=
  .next s.releaseOrder

end Sys2Proof.Machine
end

