-- ==== Sys2Proof/Machine/Queries.lean ====
section
/-!
DEFINITION. QUERY posts (R179 to R181): READ_FIRST, READ_NEXT, READ_COUNTERS, READ_FLAGS, CLEAR_LOG, CLEAR_COUNTERS, ACK_PIN,
READ_PROFILE, READ_START, BAD_ITEM.
-/

namespace Sys2Proof.Machine

/-- A REPLY with status OK. -/
def replyOk (item : Byte) (content : List Byte) : ReplyContents :=
  { item := item, status := .ok, content := content }

/-- A REPLY with status EMPTY or BAD_ITEM carries 18 bytes of 0 (R180). -/
def replyBare (item : Byte) (status : ReplyStatus) : ReplyContents :=
  { item := item, status := status, content := contentBytes [] }

/-- The REPLY of an item that answers with a content, or EMPTY without one (R180). -/
def replyOf (item : Byte) (content : Option (List Byte)) : ReplyContents :=
  match content with
  | none => replyBare item .empty
  | some bs => replyOk item bs

/-- What an item does with the log class that byte 3 names; any other class makes the QUERY a BAD_ITEM (R180). -/
def classItem (item argument : Byte) (s : State) (act : Class → State × ReplyContents) : State × ReplyContents :=
  match classOfArgument argument with
  | none => (s, replyBare item .badItem)
  | some c => act c

/-- Item 1 (R180). -/
def State.itemReadFirst (argument : Byte) (s : State) : State × ReplyContents :=
  classItem 1 argument s fun c => (s, replyOf 1 ((s.fault.log c).first.map FaultRecord.content))

/-- Item 2 (R180). -/
def State.itemReadNext (argument : Byte) (s : State) : State × ReplyContents :=
  classItem 2 argument s fun c =>
    let next := (s.fault.log c).next
    (s, replyOf 2 (if next.isEmpty then none else some (nextContent next)))

/-- Item 3 (R180). -/
def State.itemReadCounters (s : State) : State × ReplyContents :=
  (s, replyOk 3 s.fault.countersContent)

/-- Item 4: the accrued set is read and then emptied (R56, R180). -/
def State.itemReadFlags (s : State) : State × ReplyContents :=
  (s.withAccrued .noFlags, replyOk 4 (flagsContent s.accrued))

/-- Item 5: the class is cleared (R174, R180). -/
def State.itemClearLog (argument : Byte) (s : State) : State × ReplyContents :=
  classItem 5 argument s fun c => (s.withFault (s.fault.withLog c .empty), replyOk 5 (contentBytes []))

/-- The fault unit with its four counters and flags cleared (R173). -/
def FaultUnit.clearCounters (f : FaultUnit) : FaultUnit :=
  { f with line := .zero, link := .zero, allot := .zero, gauge := .zero }

/-- Item 6 (R173, R180). -/
def State.itemClearCounters (s : State) : State × ReplyContents :=
  (s.withFault s.fault.clearCounters, replyOk 6 (contentBytes []))

/-- Item 7: the FLT pin is released (R170, R180). -/
def State.itemAckPin (s : State) : State × ReplyContents :=
  (s.withFault { s.fault with fltAsserted := false }, replyOk 7 (contentBytes []))

/-- Item 8; EMPTY before the PROFILE stage of the start has completed (R24, R180). -/
def State.itemReadProfile (s : State) : State × ReplyContents :=
  (s, replyOf 8 (s.start.record.profile.map fun n => profileContent n s.gauge.capacity))

/-- Item 9 (R152, R180). -/
def State.itemReadStart (s : State) : State × ReplyContents :=
  (s, replyOk 9 s.start.content)

/-- What a QUERY's item does and answers (R180). -/
def State.item (item argument : Byte) (s : State) : State × ReplyContents :=
  match item.toNat with
  | 1 => s.itemReadFirst argument
  | 2 => s.itemReadNext argument
  | 3 => s.itemReadCounters
  | 4 => s.itemReadFlags
  | 5 => s.itemClearLog argument
  | 6 => s.itemClearCounters
  | 7 => s.itemAckPin
  | 8 => s.itemReadProfile
  | 9 => s.itemReadStart
  | _ => (s, replyBare item .badItem)

/-- A QUERY post heard (R179), with what its item does and answers: discarded when addressed to another, counted as
QUERY_OVERRUN when two REPLY posts wait, otherwise acted on and answered. -/
def State.takeQuery (target : Byte) (act : State → State × ReplyContents) (s : State) : State :=
  if !s.receiving then s
  else
    let s1 := s.endReception
    if !addressed s.start.straps.address target then s1
    else if 2 ≤ s1.line.replies.length then s1.count .queryOverrun
    else (act s1).1.handReply (act s1).2

/-- READ_FIRST (R180). -/
def execReadFirst (target argument : Byte) (s : State) : Answer :=
  .next (s.takeQuery target (State.itemReadFirst argument))

/-- READ_NEXT (R180). -/
def execReadNext (target argument : Byte) (s : State) : Answer :=
  .next (s.takeQuery target (State.itemReadNext argument))

/-- READ_COUNTERS (R180); byte 3 is not read. -/
def execReadCounters (target _argument : Byte) (s : State) : Answer :=
  .next (s.takeQuery target State.itemReadCounters)

/-- READ_FLAGS (R56, R180); byte 3 is not read. -/
def execReadFlags (target _argument : Byte) (s : State) : Answer :=
  .next (s.takeQuery target State.itemReadFlags)

/-- CLEAR_LOG (R174, R180). -/
def execClearLog (target argument : Byte) (s : State) : Answer :=
  .next (s.takeQuery target (State.itemClearLog argument))

/-- CLEAR_COUNTERS (R173, R180); byte 3 is not read. -/
def execClearCounters (target _argument : Byte) (s : State) : Answer :=
  .next (s.takeQuery target State.itemClearCounters)

/-- ACK_PIN (R170, R180); byte 3 is not read. -/
def execAckPin (target _argument : Byte) (s : State) : Answer :=
  .next (s.takeQuery target State.itemAckPin)

/-- READ_PROFILE (R24, R180); byte 3 is not read. -/
def execReadProfile (target _argument : Byte) (s : State) : Answer :=
  .next (s.takeQuery target State.itemReadProfile)

/-- READ_START (R152, R180); byte 3 is not read. -/
def execReadStart (target _argument : Byte) (s : State) : Answer :=
  .next (s.takeQuery target State.itemReadStart)

/-- BAD_ITEM (R180): the QUERY is taken by the item it names. -/
def execBadItem (target item argument : Byte) (s : State) : Answer :=
  .next (s.takeQuery target (State.item item argument))

end Sys2Proof.Machine
end

