-- ==== Sys2Proof/Machine/LineEvents.lean ====
section
/-!
DEFINITION. Events of the line and of the station's own transmissions (R17, R18, R65, R66, R130 to R134, R138): LINE_IDLE,
OWN_STATE_SENT, ALERT_SENT, REPLY_SENT, LOST_ARBITRATION, ECHO_ABORT, LINE_STUCK.
-/

namespace Sys2Proof.Machine

/-! ### The line idle -/

/-- The line has become idle (R130, R138): stuck is cleared, with offering yes again where the controller offers, and the
head of the queue, if there is one to offer, begins its transmission with a falling edge. -/
def State.lineIdle (s : State) : State :=
  let l := s.line
  let offering := if l.stuck then s.mayOffer else l.offering
  let begins := offering && decide (l.sending = none) && l.head.isSome
  s.withLine
    { l with
      stuck := false, offering := offering, idleUs := if begins then 0 else 240, lowUs := 0
      sending := if begins then l.head else l.sending }

/-- LINE_IDLE (R130). -/
def execLineIdle (s : State) : Answer :=
  .next (if s.receiving then s.lineIdle else s)

/-! ### A post sent -/

/-- Steps 1 to 5 of R66, for a post that carried `p`. -/
def State.takeSent (p : Setting) (s : State) : State :=
  let s1 := s.withApply { s.apply with posted := some p }
  let g := (min p.g s1.apply.proposal.g).toNat
  let c := (min p.c s1.apply.proposal.c).toNat
  let s2 := s1.setDraw (match s1.policy.contract with
    | none => g
    | some k => min g k)
  let s3 := if s2.station.state = .latched then s2 else s2.setCharge c
  s3.judgeLink

/-- The held composition joins the queue as it stands, after the transmission that held it back (R18). -/
def State.releaseHeld (s : State) : State :=
  match s.round.held with
  | none => s
  | some p => (s.withRound { s.round with held := none }).handState p

/-- The own STATE post `q` has been sent (R17, R66, R18, R65). -/
def State.ownStateSent (q : Queued OwnState) (s : State) : State :=
  let sent := q.post.contents.setting
  let seq := (s.round.seq + 1) % 256
  let s1 := s.withLine { s.line with state := none, sending := none, idleUs := 0, lowUs := 0 }
  let s2 := s1.withRound
    { s1.round with posted := some sent, seq := seq, held := s1.round.held.map (OwnState.withSeq seq) }
  let s3 := s2.takeSent sent
  (s3.withApply { s3.apply with rewritePending := false }).releaseHeld

/-- OWN_STATE_SENT (R134): the own STATE post whose transmission is running is sent. -/
def execOwnStateSent (vIn : Nat) (s : State) : Answer :=
  .next <|
    match s.line.sending, s.line.state with
    | some .state, some q => (s.ownStateSent q).settleShelf vIn
    | _, _ => s

/-- ALERT_SENT (R134): the ALERT post whose transmission is running leaves the queue. -/
def execAlertSent (s : State) : Answer :=
  .next <|
    if s.line.sending = some .alert then
      s.withLine { s.line with alerts := s.line.alerts.tail, sending := none, idleUs := 0, lowUs := 0 }
    else s

/-- REPLY_SENT (R134): the REPLY post whose transmission is running no longer waits. -/
def execReplySent (s : State) : Answer :=
  .next <|
    if s.line.sending = some .reply then
      s.withLine { s.line with replies := s.line.replies.tail, sending := none, idleUs := 0, lowUs := 0 }
    else s

/-! ### A transmission that is not sent -/

/-- The own STATE stays in the queue after its transmission (R65, R18): a pending rewrite is made with the current proposal,
and a held composition then replaces the post, keeping its seq. -/
def State.settleRetry (s : State) : State :=
  let s1 :=
    if s.apply.rewritePending then
      s.withLine
        { s.line with
          state := s.line.state.map fun q => { q with post := q.post.rewritten s.apply.proposal s.apply.code } }
    else s
  (s1.withApply { s1.apply with rewritePending := false }).releaseHeld

/-- The transmission stops, and the bits read stay in the receive buffer (R132, R133). -/
def State.stopSending (read : List Bool) (s : State) : State :=
  s.withLine { s.line with sending := none, receiveBuffer := read, idleUs := 0, lowUs := 0 }

/-- LOST_ARBITRATION (R132): the post stays in its place, with no count. -/
def execLostArbitration (read : List Bool) (s : State) : Answer :=
  .next <|
    match s.line.sending with
    | none => s
    | some .state => (s.stopSending read).settleRetry
    | some .alert => s.stopSending read
    | some .reply => s.stopSending read

/-- A post after one more echo abort, or none at the fourth (R133). -/
def Queued.aborted {α : Type} (q : Queued α) : Option (Queued α) :=
  if q.aborts + 1 < 4 then some { q with aborts := q.aborts + 1 } else none

/-- The first post of a kind after an echo abort. The second part says that it has been removed. -/
def abortFirst {α : Type} (qs : List (Queued α)) : List (Queued α) × Bool :=
  match qs with
  | [] => ([], false)
  | q :: rest =>
    match q.aborted with
    | some q' => (q' :: rest, false)
    | none => (rest, true)

/-- The own STATE post removed at its fourth echo abort (R133): the pending rewrite is cleared, and a held composition joins
in its place (R65, R18). -/
def State.removeState (s : State) : State :=
  let s1 := (s.withLine { s.line with state := none }).withApply { s.apply with rewritePending := false }
  s1.releaseHeld

/-- What an echo abort does to the post whose transmission has run (R133 step 3). The second part says that it has been
removed. -/
def State.abortPost (kind : PostKind) (s : State) : State × Bool :=
  match kind with
  | .alert =>
    let r := abortFirst s.line.alerts
    (s.withLine { s.line with alerts := r.1 }, r.2)
  | .reply =>
    let r := abortFirst s.line.replies
    (s.withLine { s.line with replies := r.1 }, r.2)
  | .state =>
    match s.line.state with
    | none => (s, false)
    | some q =>
      match q.aborted with
      | some q' => ((s.withLine { s.line with state := some q' }).settleRetry, false)
      | none => (s.removeState, true)

/-- Steps 1 to 3 of R133 but for the kind raised: the transmission stops, the mismatch is counted, and the post takes its
abort. The second part says that it has been removed. -/
def State.echoMismatch (kind : PostKind) (read : List Bool) (s : State) : State × Bool :=
  ((s.stopSending read).count .lineBit).abortPost kind

/-- An echo abort of the transmission running (R133): counted, and at the fourth of its post TX_FAIL is raised. -/
def State.echoAbort (kind : PostKind) (read : List Bool) (s : State) : State :=
  let r := s.echoMismatch kind read
  if r.2 then r.1.raise .txFail else r.1

/-- ECHO_ABORT (R133). -/
def execEchoAbort (read : List Bool) (vIn : Nat) (s : State) : Answer :=
  .next <|
    match s.line.sending with
    | none => s
    | some kind => (s.echoAbort kind read).settleShelf vIn

/-! ### The stuck line -/

/-- The station machine takes the stuck line (R156, R157). -/
def State.stuckStation (s : State) : State :=
  let held := s.withStation { s.station with stuckHold := true }
  match s.station.state with
  | .start => held
  | .solo => held
  | .paired => held.leavePaired
  | .latched => held
  | .shelf => s.failFinal
  | .mute => s

/-- The stuck line abandons a transmission that is running, as an echo abort of its post (R138 step 2). The second part says
that the post has been removed, for which TX_FAIL is still to be raised. -/
def State.abortRunning (s : State) : State × Bool :=
  match s.line.sending with
  | none => (s, false)
  | some kind => s.echoMismatch kind s.line.receiveBuffer

/-- The receive buffer is discarded, and counted if it had taken any bits of a post (R138 step 3). -/
def State.discardBuffer (heard : List Bool) (s : State) : State :=
  let any := !(s.line.receiveBuffer ++ heard).isEmpty
  (s.withLine { s.line with receiveBuffer := [], idleUs := 0, lowUs := 2001 }).countIf any .lineCrc

/-- The line has been found stuck (R138). LINE_STUCK is logged, with its effect on the station, before the TX_FAIL of a post
that the abort has removed: R167 and R168 take the kinds of one event in the order of their numbers, each after the effects
of the ones before. DEDUCED (notes/assumptions/36.md): that order is taken before the order of R138's steps. -/
def State.lineStuck (heard : List Bool) (s : State) : State :=
  let r := (s.withLine { s.line with stuck := true, offering := false }).abortRunning
  let s1 := ((r.1.discardBuffer heard).raise .lineStuck).stuckStation
  if r.2 then s1.raise .txFail else s1

/-- LINE_STUCK (R138). -/
def execLineStuck (heard : List Bool) (vIn : Nat) (s : State) : Answer :=
  .next (if s.receiving then (s.lineStuck heard).settleShelf vIn else s)

end Sys2Proof.Machine
end

