-- ==== Sys2Proof/Machine/ShelfEvents.lean ====
section
/-!
DEFINITION. The end of the shelf wait and the exit from SHELF (R111, R159, R160): SHELF_WAIT_EXPIRY,
WAKE_WAITING_FOR_HIGH, WAKE_EVENT.
-/

namespace Sys2Proof.Machine

/-- SHELF_WAIT_EXPIRY (R159): the rest of the shelf wait has passed; the final STATE is removed as failed, and the stages
are switched off. -/
def execShelfWaitExpiry (vIn : Nat) (s : State) : Answer :=
  .next <|
    match s.station.shelfWait with
    | none => s
    | some t =>
      if s.station.state = .shelf ∧ !s.station.off then ((s.advance (1000 - t)).failFinal).settleShelf vIn else s

/-- WAKE_WAITING_FOR_HIGH (R111). -/
def execWakeWaitingForHigh (vIn : Nat) (s : State) : Answer :=
  .next <|
    if s.port.wake = .waitingForLow ∧ vIn < 3800 then s.withPort { s.port with wake := .waitingForHigh } else s

/-- Whether a wake event fires (R160, R111). -/
def State.wakes (source : WakeSource) (s : State) : Bool :=
  s.station.off &&
    match source with
    | .input vIn => decide (s.port.wake = .waitingForHigh) && decide (4300 ≤ vIn)
    | .fold _ => s.start.straps.foldFitted

/-- The pins after a wake event. -/
def wakePins (source : WakeSource) (p : Pins) : Pins :=
  match source with
  | .input _ => p
  | .fold rising => { p with foldHigh := rising }

/-- WAKE_EVENT (R160): after switch-off, the exit from SHELF. -/
def execWakeEvent (source : WakeSource) (s : State) : Answer :=
  .next (if s.wakes source then (s.withPins (wakePins source s.pins)).wake else s)

end Sys2Proof.Machine
end

