-- ==== Sys2Proof/Machine/PortEvents.lean ====
section
/-!
DEFINITION. Events of the input port stage between sweeps (R101, R102, R104): PROBE_STEP_END, PROBE_COMPARATOR_TRIP,
UNDERVOLTAGE_TRIP, INPUT_OVERVOLT.
-/

namespace Sys2Proof.Machine

/-- Whether the port is probing with the stages on. -/
def State.probing (s : State) : Bool :=
  decide (s.port.port = .probing) && !s.station.off

/-- PROBE_STEP_END (R104): the rest of the step's 20 ms has passed without a trip. -/
def execProbeStepEnd (s : State) : Answer :=
  .next <|
    if s.probing then
      let s1 := s.advance s.port.stepLeft
      s1.withPort s1.port.stepHeld
    else s

/-- PROBE_COMPARATOR_TRIP (R104): V_in has fallen below the threshold, and the step fails. -/
def execProbeComparatorTrip (vIn : Nat) (s : State) : Answer :=
  .next (if s.probing && decide (vIn < s.port.sagMv) then s.withPort s.port.failProbe else s)

/-- UNDERVOLTAGE_TRIP (R101): an attached port detaches. -/
def execUndervoltageTrip (vIn : Nat) (s : State) : Answer :=
  .next <|
    if s.port.attached && !s.station.off && decide (vIn < 3500) then
      (s.withPort (s.port.leave .detached)).requestSweep
    else s

/-- Whether the overvoltage comparator is armed (R98, R99, R111). -/
def State.inputArmed (s : State) : Bool :=
  s.receiving && (s.port.attached || decide (s.port.port = .detached))

/-- The overvoltage trip (R102). -/
def State.inputOvervolt (s : State) : State :=
  ((s.withPort (s.port.leave .blocked)).requestSweepIf s.port.attached).raise .inputOvervolt

/-- INPUT_OVERVOLT (R102). -/
def execInputOvervolt (vIn : Nat) (s : State) : Answer :=
  .next (if s.inputArmed && decide (14000 < vIn) then s.inputOvervolt.settleShelf vIn else s)

end Sys2Proof.Machine
end

