-- ==== Sys2Proof/Machine/HingeEvents.lean ====
section
/-!
DEFINITION. Events of the hinge link stage between sweeps (R72, R87 to R89): HINGE_TRIP, THRESHOLD_LOWERING.
-/

namespace Sys2Proof.Machine

/-- The kinds of a trip, in the order of their numbers (R88). -/
def tripKinds (repeats : Bool) : List Kind :=
  if repeats then [.hingeRepeat, .hingeTrip] else [.hingeTrip]

/-- A trip (R88): the stage is barred, the kinds are logged, and the apply unit brings the link to 0 (R72). -/
def State.hingeTrip (s : State) : State :=
  let r := s.hinge.trip s.round.stamp
  ((s.withHinge r.1).raiseAll (tripKinds r.2)).setLink 0

/-- HINGE_TRIP (R88): |I_hinge| exceeds the threshold. -/
def execHingeTrip (iHinge : Int) (vIn : Nat) (s : State) : Answer :=
  .next (if s.hingePowered && decide (s.hinge.threshold < iHinge.natAbs) then s.hingeTrip.settleShelf vIn else s)

/-- THRESHOLD_LOWERING (R87): the rest of the 2 ms has passed. -/
def execThresholdLowering (s : State) : Answer :=
  .next <|
    match s.hinge.lowering with
    | none => s
    | some t =>
      let s1 := s.advance t
      s1.withHinge s1.hinge.lowerThreshold

end Sys2Proof.Machine
end

