-- ==== Sys2Proof/Machine/CellEvents.lean ====
section
/-!
DEFINITION. The protection comparators of the fault unit (R165, R171): CELL_OVERVOLT, CELL_OVERCURRENT,
COMPARATOR_NO_LONGER_ASSERTED.
-/

namespace Sys2Proof.Machine

/-- Whether V_cell stands above the overvoltage threshold (R165, R21). -/
def Profile.overvolts (p : Profile) (vCell : Nat) : Bool :=
  decide (p.overvoltMv < vCell)

/-- Whether the discharge current stands above the overcurrent threshold (R165, R21). -/
def Profile.overcurrents (p : Profile) (iCell : Int) : Bool :=
  decide ((p.overcurrentMa : Int) < -iCell)

/-- The kinds of the comparators that pass from not asserted to asserted, in the order of their numbers (R165). -/
def State.cellTrips (vCell : Nat) (iCell : Int) (s : State) : List Kind :=
  (if s.profile.overvolts vCell && !s.fault.overvoltAsserted then [Kind.cellOvervolt] else []) ++
  (if s.profile.overcurrents iCell && !s.fault.overcurrentAsserted then [Kind.cellOvercurrent] else [])

/-- The comparators at readings that trip one or both of them (R165): the discharge switch opens and the kinds are
logged. -/
def State.tripCell (vCell : Nat) (iCell : Int) (s : State) : State :=
  (s.withFault
    { s.fault with
      dischargeClosed := false
      overvoltAsserted := s.fault.overvoltAsserted || s.profile.overvolts vCell
      overcurrentAsserted := s.fault.overcurrentAsserted || s.profile.overcurrents iCell }).raiseAll
    (s.cellTrips vCell iCell)

/-- Whether a comparator, named by its kind, trips at these readings (R165): armed, and passing from not asserted to
asserted. -/
def State.tripsCell (k : Kind) (vCell : Nat) (iCell : Int) (s : State) : Bool :=
  s.fault.armed && decide (k ∈ s.cellTrips vCell iCell)

/-- CELL_OVERVOLT (R165), with a trip of the other comparator that comes as one event with it. -/
def execCellOvervolt (vCell : Nat) (iCell : Int) (vIn : Nat) (s : State) : Answer :=
  .next (if s.tripsCell .cellOvervolt vCell iCell then (s.tripCell vCell iCell).settleShelf vIn else s)

/-- CELL_OVERCURRENT (R165), with a trip of the other comparator that comes as one event with it. -/
def execCellOvercurrent (vCell : Nat) (iCell : Int) (vIn : Nat) (s : State) : Answer :=
  .next (if s.tripsCell .cellOvercurrent vCell iCell then (s.tripCell vCell iCell).settleShelf vIn else s)

/-- COMPARATOR_NO_LONGER_ASSERTED (R165). -/
def execComparatorNoLongerAsserted (vCell : Nat) (iCell : Int) (s : State) : Answer :=
  .next <| s.withFault
    { s.fault with
      overvoltAsserted := s.fault.overvoltAsserted && s.profile.overvolts vCell
      overcurrentAsserted := s.fault.overcurrentAsserted && s.profile.overcurrents iCell }

end Sys2Proof.Machine
end

