-- ==== Sys2Proof/Machine/Dispatch.lean ====
section
/-!
DEFINITION. The meaning of each command: one arm for each constructor of `Instr`, in the order of spec/opcode_table.json.
-/

namespace Sys2Proof.Machine

/-- The effect of a command on everything but the queue of commands. -/
def exec (i : Instr) (s : State) : Host.Outcome State Fault Refusal :=
  match i with
  | .powerOnReset => Sys2Proof.Machine.execPowerOnReset s
  | .warmReset => Sys2Proof.Machine.execWarmReset s
  | .resetNRise => Sys2Proof.Machine.execResetNRise s
  | .strapsComplete s0 s1 s2 s3 foldHigh => Sys2Proof.Machine.execStrapsComplete s0 s1 s2 s3 foldHigh s
  | .profileComplete packId vCell => Sys2Proof.Machine.execProfileComplete packId vCell s
  | .cellCheckComplete vCell tCell => Sys2Proof.Machine.execCellCheckComplete vCell tCell s
  | .listenEnd => Sys2Proof.Machine.execListenEnd s
  | .ownRoundExpiry => Sys2Proof.Machine.execOwnRoundExpiry s
  | .sweepComplete readings => Sys2Proof.Machine.execSweepComplete readings s
  | .foldEdge rising => Sys2Proof.Machine.execFoldEdge rising s
  | .foldWindowExpiry => Sys2Proof.Machine.execFoldWindowExpiry s
  | .stateArrival source post vIn => Sys2Proof.Machine.execStateArrival source post vIn s
  | .limit post vIn => Sys2Proof.Machine.execLimit post vIn s
  | .shelfOrder vIn => Sys2Proof.Machine.execShelfOrder vIn s
  | .release => Sys2Proof.Machine.execRelease s
  | .readFirst target argument => Sys2Proof.Machine.execReadFirst target argument s
  | .readNext target argument => Sys2Proof.Machine.execReadNext target argument s
  | .readCounters target argument => Sys2Proof.Machine.execReadCounters target argument s
  | .readFlags target argument => Sys2Proof.Machine.execReadFlags target argument s
  | .clearLog target argument => Sys2Proof.Machine.execClearLog target argument s
  | .clearCounters target argument => Sys2Proof.Machine.execClearCounters target argument s
  | .ackPin target argument => Sys2Proof.Machine.execAckPin target argument s
  | .readProfile target argument => Sys2Proof.Machine.execReadProfile target argument s
  | .readStart target argument => Sys2Proof.Machine.execReadStart target argument s
  | .badItem target item argument => Sys2Proof.Machine.execBadItem target item argument s
  | .addressClash => Sys2Proof.Machine.execAddressClash s
  | .invalidPost bits => Sys2Proof.Machine.execInvalidPost bits s
  | .discardedPost bits => Sys2Proof.Machine.execDiscardedPost bits s
  | .lineIdle => Sys2Proof.Machine.execLineIdle s
  | .ownStateSent vIn => Sys2Proof.Machine.execOwnStateSent vIn s
  | .alertSent => Sys2Proof.Machine.execAlertSent s
  | .replySent => Sys2Proof.Machine.execReplySent s
  | .lostArbitration read => Sys2Proof.Machine.execLostArbitration read s
  | .echoAbort read vIn => Sys2Proof.Machine.execEchoAbort read vIn s
  | .lineStuck heard vIn => Sys2Proof.Machine.execLineStuck heard vIn s
  | .shelfWaitExpiry vIn => Sys2Proof.Machine.execShelfWaitExpiry vIn s
  | .wakeWaitingForHigh vIn => Sys2Proof.Machine.execWakeWaitingForHigh vIn s
  | .wakeEvent source => Sys2Proof.Machine.execWakeEvent source s
  | .probeStepEnd => Sys2Proof.Machine.execProbeStepEnd s
  | .probeComparatorTrip vIn => Sys2Proof.Machine.execProbeComparatorTrip vIn s
  | .undervoltageTrip vIn => Sys2Proof.Machine.execUndervoltageTrip vIn s
  | .inputOvervolt vIn => Sys2Proof.Machine.execInputOvervolt vIn s
  | .hingeTrip iHinge vIn => Sys2Proof.Machine.execHingeTrip iHinge vIn s
  | .thresholdLowering => Sys2Proof.Machine.execThresholdLowering s
  | .cellOvervolt vCell iCell vIn => Sys2Proof.Machine.execCellOvervolt vCell iCell vIn s
  | .cellOvercurrent vCell iCell vIn => Sys2Proof.Machine.execCellOvercurrent vCell iCell vIn s
  | .comparatorNoLongerAsserted vCell iCell => Sys2Proof.Machine.execComparatorNoLongerAsserted vCell iCell s

end Sys2Proof.Machine
end

