-- ==== Sys2Proof/Config.lean ====
section
/-!
DEFINITION. The free values of the model: constants with no body, so that no proof and no evaluation can see them.
Each is applied to the model's clock, so that two uses at two moments are unrelated (notes/assumptions/3.md, 4.md, 32.md).
-/

namespace Sys2Proof.Config

/-- FREE VALUE. Where several of the part's own events are due at one moment, either may be taken first (R3, R15, R106 give
the outcome of each order and name no order): which of them is taken first, at the moment given by the first argument, with
as many due as the second says. -/
opaque tieOrder : Nat → Nat → Nat

/-- FREE VALUE. Whether another station's post has begun on the line when the model comes to idle, at the moment given by the
first argument, with as many own posts waiting as the second says: a falling edge of the line, which clears the idle time
(R130) and is an input of the part. -/
opaque otherBegins : Nat → Nat → Bool

/-- FREE VALUE. V_in in mV at the moment the shelf wait runs out by idling alone (R111 arms the wake detector from
the V_in of that moment, which is an input of the part and not a state of it). -/
opaque vinAtShelfWait : Nat → Nat

end Sys2Proof.Config
end

