-- ==== Sys2Proof/Machine/Tick.lean ====
section
/-!
DEFINITION. What the block does with no command waiting (notes/assumptions/1.md): the timers that have run out, and the line
that stands idle with a post to offer, bring their own commands, one at a step; while none is due a millisecond passes.
-/

namespace Sys2Proof.Machine

/-- A command when a condition holds. -/
def commandIf (b : Bool) (c : Instr) : List Instr :=
  if b then [c] else []

/-- Whether the shelf wait has run out with the final STATE neither sent nor failed (R159). -/
def State.shelfWaitOver (s : State) : Bool :=
  decide (s.station.state = .shelf) && !s.station.off && decide (s.station.shelfWait = some 1000)

/-- Whether the line stands idle with a post to offer (R130). -/
def State.mayBegin (s : State) : Bool :=
  s.receiving && s.line.offering && decide (s.line.idleUs = 240) && decide (s.line.sending = none) && s.line.head.isSome

/-- The commands that are due by the part's own timers: the round timer (R2), the fold-motion window (R15), the probe step
(R104), LISTEN (R150), the lowering of the trip threshold (R87), the shelf wait (R159), and a post to offer on an idle line
(R130). -/
def State.due (s : State) : List Instr :=
  commandIf (decide (s.round.timer = some 0)) .ownRoundExpiry ++
  commandIf (decide (s.round.foldWindow = some 0)) .foldWindowExpiry ++
  commandIf (s.probing && decide (s.port.stepLeft = 0)) .probeStepEnd ++
  commandIf (decide (s.start.listenLeft = some 0)) .listenEnd ++
  commandIf (decide (s.hinge.lowering = some 0)) .thresholdLowering ++
  commandIf s.shelfWaitOver (.shelfWaitExpiry (Config.vinAtShelfWait s.clock)) ++
  commandIf s.mayBegin .lineIdle

/-- The one of several commands that is taken at the place given, counted round; none of none. -/
def pickOne (place : Nat) (cs : List Instr) : Option Instr :=
  cs[place % cs.length]?

/-- One of the commands that are due, if any is: free, where there are two or more. -/
def State.dueFirst (s : State) : Option Instr :=
  pickOne (Config.tieOrder s.clock s.due.length) s.due

/-- The line as the model comes to idle (R130): the idle time starts anew where another station's post has begun. -/
def State.otherEdge (s : State) : State :=
  if Config.otherBegins s.clock s.line.waiting then s.withLine { s.line with idleUs := 0 } else s

/-- What the part does with no command waiting: while commands are due already no time passes, otherwise a millisecond; one
command that is then due waits. Only one, so that what it changes is seen before the next is brought (R3). -/
def State.tick (s : State) : State :=
  let s1 := s.otherEdge
  let s2 := if s1.due.isEmpty then s1.advance 1 else s1
  s2.withPending s2.dueFirst.toList

end Sys2Proof.Machine
end

