-- ==== Sys2Proof/Safety.lean ====
section
/-!
DEFINITION. What a sound state of the part is, block by block: the bounds that the rules give each block's state and that
every event keeps. Each is decidable.
-/

namespace Sys2Proof.Machine

/-! ### Faults, log and counters -/

/-- A counter stands from 0 to 127, and its overflow flag only at 127 (R173). -/
abbrev Counter.Sound (c : Counter) : Prop :=
  c.value ≤ 127 ∧ (c.overflow = true → c.value = 127)

/-- The four counters (R173). -/
abbrev FaultUnit.CountersSound (f : FaultUnit) : Prop :=
  f.line.Sound ∧ f.link.Sound ∧ f.allot.Sound ∧ f.gauge.Sound

/-- The log of a class (R167): kinds of that class alone, the next set without repeats and without the first record's kind,
and empty while there is no first record. -/
abbrev ClassLog.Sound (c : Class) (l : ClassLog) : Prop :=
  l.next.Pairwise (fun a b => a.number < b.number) ∧ (∀ k ∈ l.next, k.severity = c) ∧ (l.first = none → l.next = []) ∧
    ∀ r ∈ l.first, r.kind.severity = c ∧ r.kind ∉ l.next

/-- The log of both classes (R167). -/
abbrev FaultUnit.LogSound (f : FaultUnit) : Prop :=
  f.halting.Sound .halting ∧ f.degraded.Sound .degraded

/-- The log of the kind's class holds the kind, as its first record or in its next set (R167). -/
abbrev FaultUnit.Holds (k : Kind) (f : FaultUnit) : Prop :=
  (∃ r ∈ (f.log k.severity).first, r.kind = k) ∨ k ∈ (f.log k.severity).next

/-! ### The share line -/

/-- The transmit queue and the transmission (R128, R139): at most four posts, of which at most two are REPLY, each with at
most three echo aborts; the post in transmission is one of them; a stuck line is not offered to (R138). -/
abbrev LineController.Sound (l : LineController) : Prop :=
  l.waiting ≤ 4 ∧ l.replies.length ≤ 2 ∧
  (∀ q ∈ l.alerts, q.aborts ≤ 3) ∧ (∀ q ∈ l.state, q.aborts ≤ 3) ∧ (∀ q ∈ l.replies, q.aborts ≤ 3) ∧
  (l.sending = some .alert → l.alerts ≠ []) ∧ (l.sending = some .state → l.state ≠ none) ∧
  (l.sending = some .reply → l.replies ≠ []) ∧ (l.stuck = true → l.offering = false)

/-! ### Station states -/

/-- What START, SHELF and MUTE leave at rest (R1, R75, R128, R137, R148, R159): outside them alone the round timer runs, a
sweep is in flight only where it does, in SHELF the proposal is 0, START and MUTE offer nothing, the stages are off only in
SHELF, before the end of STRAPS the station is in START, and while RESET_N is low STRAPS has not ended. -/
abbrev State.ModesSound (s : State) : Prop :=
  (s.station.state = .start → s.round.timer = none ∧ s.round.inFlight = false ∧ s.line.offering = false) ∧
  (s.station.state = .shelf → s.round.timer = none ∧ s.round.inFlight = false ∧ s.apply.proposal = .zero) ∧
  (s.station.state = .mute → s.line.offering = false) ∧
  (s.station.off = true → s.station.state = .shelf) ∧
  (s.strapped = false → s.station.state = .start) ∧
  (s.pins.resetNHigh = false → s.strapped = false)

/-! ### The input port -/

/-- The input port stage (R97, R98): the probe step is there exactly while PROBING and lies from 500 to 3000 mA in steps of
100, with the last step held one step below it; the attach voltage is there exactly while attached; the probed limit only
while HOLDING, from 500 to 3000 mA; the attach count stays below 3. -/
abbrev InputPort.Sound (p : InputPort) : Prop :=
  (p.port = .probing ↔ p.step ≠ none) ∧
  (∀ n ∈ p.step, 500 ≤ n ∧ n ≤ 3000 ∧ n % 100 = 0 ∧ p.lastHeld = if n = 500 then none else some (n - 100)) ∧
  (p.attached = true ↔ p.attachMv ≠ none) ∧ (∀ v ∈ p.attachMv, 4300 ≤ v) ∧
  (p.probed ≠ none → p.port = .holding) ∧ (∀ n ∈ p.probed, 500 ≤ n ∧ n ≤ 3000) ∧ p.attachCount ≤ 2

/-- The input port stage in the part: DETACHED until the end of STRAPS (R99), with its switch closed exactly while it is
attached and the stages are on (R98, R111). -/
abbrev State.PortSound (s : State) : Prop :=
  s.port.Sound ∧ (s.strapped = false → s.port.port = .detached) ∧
    s.port.switchClosed = (s.port.attached && !s.station.off)

/-! ### The hinge link stage and the applied setpoints -/

/-- The hinge link stage (R80, R82): BARRED exactly during a barring of at most 8 own rounds or until release, in which the
applied link is 0; otherwise the link state follows the applied link. The trip history holds at most three stamps, each
once. -/
abbrev State.HingeSound (s : State) : Prop :=
  (s.hinge.link = .barred ↔ s.hinge.barring ≠ .rounds 0) ∧
  (s.hinge.barring = .untilRelease ∨ ∃ n ∈ List.range 9, s.hinge.barring = .rounds n) ∧
  (s.hinge.link = .barred → s.apply.link = 0) ∧
  (s.hinge.link ≠ .barred → s.hinge.link = linkStateOf s.apply.link) ∧
  s.hinge.history.length ≤ 3 ∧ s.hinge.history.Nodup

/-- The bound of R67: the applied link lies from 0 to what a full link judgement would find, so that it is above 0 only while
PAIRED, with posted X of opposite signs, no unanswered hold and no barring, and never above the smallest of the magnitudes of
own posted X, partner's posted X and the proposal's X. -/
abbrev State.LinkBounded (s : State) : Prop :=
  (0 ≤ s.apply.link ∧ s.apply.link ≤ s.judgedLink) ∨ (s.judgedLink ≤ s.apply.link ∧ s.apply.link ≤ 0)

/-- The bound of R70: the applied draw never exceeds the posted or the current proposal's G, nor a contract stored. -/
abbrev State.DrawBounded (s : State) : Prop :=
  (s.apply.draw : Int) ≤ max 0 ((s.apply.posted.map Setting.g).getD 0) ∧
    (s.apply.draw : Int) ≤ max 0 s.apply.proposal.g ∧ ∀ k ∈ s.policy.contract, s.apply.draw ≤ k

/-- The same for the applied charge (R66, R74): never above the posted or the current proposal's C, and 0 while LATCHED. -/
abbrev State.ChargeBounded (s : State) : Prop :=
  (s.apply.charge : Int) ≤ max 0 ((s.apply.posted.map Setting.c).getD 0) ∧
    (s.apply.charge : Int) ≤ max 0 s.apply.proposal.c ∧ (s.station.state = .latched → s.apply.charge = 0)

/-! ### The charger and the gauge -/

/-- The charger (R114, R117, R120, R125, R126): it holds the applied charge and its limit as handed; HOLD_OFF in START, LATCHED
and SHELF and while the timeout is held; HOLD_OFF or FULL while the band permits no charge; a termination count only in
TAPER, below 2. -/
abbrev State.ChargerSound (s : State) : Prop :=
  (s.station.state = .start ∨ s.station.state = .latched ∨ s.station.state = .shelf → s.charger.phase = .holdOff) ∧
  (s.charger.timeoutHeld = true → s.charger.phase = .holdOff) ∧
  (chargeFactor s.charger.band = 0 → s.charger.phase = .holdOff ∨ s.charger.phase = .full) ∧
  (s.charger.phase ≠ .taper → s.charger.termination = 0) ∧ s.charger.termination ≤ 1 ∧ s.charger.stay ≤ 600000 ∧
  s.charger.setpoint = s.apply.charge ∧ s.charger.limitMa = s.apply.chargeMa

/-- The gauge in its ranges (R25). -/
abbrev Gauge.Sound (g : Gauge) : Prop :=
  g.count ≤ 10 * g.capacity ∧ 800 ≤ g.capacity ∧ g.capacity ≤ 3600 ∧ -359999 ≤ g.residue ∧ g.residue ≤ 359999 ∧
    -65535 ≤ g.span ∧ g.span ≤ 65535 ∧ g.overrun ≤ 65535 ∧ (g.learning = false → g.span = 0)

/-! ### The peer table and the round -/

/-- An entry in its ranges (R153, R154). -/
abbrev Entry.Sound (e : Entry) : Prop :=
  e.address ≠ 7 ∧ e.age ≤ 9 ∧ (e.stale = true ↔ 3 ≤ e.age) ∧ e.seq < 256 ∧ e.figures.s ≤ 30000 ∧ e.figures.l ≤ 30000 ∧
    e.figures.q ≤ 1000 ∧ e.figures.cmax ≤ 20000 ∧ e.figures.dmax ≤ 20000 ∧ e.figures.h ≤ 10000 ∧ -10000 ≤ e.x ∧ e.x ≤ 10000

/-- The peer table (R146): entries in their ranges, at most one for each address and none for the own address, and none
before the end of STRAPS. -/
abbrev State.PeersSound (s : State) : Prop :=
  (∀ e ∈ s.peers, e.Sound ∧ e.address ≠ s.start.straps.address) ∧ (s.peers.map Entry.address).Nodup ∧
    (s.strapped = false → s.peers = [])

/-- Every held reading lies within its channel's window (R1, R6). -/
abbrev Channels.Sound (c : Channels) : Prop :=
  (∀ x ∈ c.vCell.held, 2000 ≤ x ∧ x ≤ 4800) ∧ (∀ x ∈ c.vIn.held, 0 ≤ x ∧ x ≤ 16000) ∧
  (∀ x ∈ c.vSys.held, 2500 ≤ x ∧ x ≤ 5000) ∧ (∀ x ∈ c.vHinge.held, 0 ≤ x ∧ x ≤ 9500) ∧
  (∀ x ∈ c.iCell.held, -8000 ≤ x ∧ x ≤ 8000) ∧ (∀ x ∈ c.iLoad.held, 0 ≤ x ∧ x ≤ 9000) ∧
  (∀ x ∈ c.iIn.held, 0 ≤ x ∧ x ≤ 3500) ∧ (∀ x ∈ c.iHinge.held, -2500 ≤ x ∧ x ≤ 2500) ∧
  (∀ x ∈ c.tCell.held, -80 ≤ x ∧ x ≤ 250) ∧ (∀ x ∈ c.tHinge.held, -80 ≤ x ∧ x ≤ 250)

/-- The round unit in its ranges (R1, R10, R15): the stamp and the seq counter, the round timer at most the strapped period,
the fold-motion window, the own last unsuspect L and the held readings. -/
abbrev State.RoundSound (s : State) : Prop :=
  s.round.stamp < 16777216 ∧ s.round.seq < 256 ∧ (∀ t ∈ s.round.timer, t ≤ s.start.straps.period) ∧
  (∀ w ∈ s.round.foldWindow, w ≤ 2000) ∧ (∀ l ∈ s.round.lastL, l ≤ 30000) ∧ s.round.channels.Sound

/-! ### All of it -/

/-- A sound state: every block within what the rules give it. -/
structure State.Sound (s : State) : Prop where
  counters : s.fault.CountersSound
  log : s.fault.LogSound
  line : s.line.Sound
  modes : s.ModesSound
  port : s.PortSound
  hinge : s.HingeSound
  link : s.LinkBounded
  draw : s.DrawBounded
  charge : s.ChargeBounded
  charger : s.ChargerSound
  gauge : s.gauge.Sound
  peers : s.PeersSound
  round : s.RoundSound

end Sys2Proof.Machine
end

