-- ==== Sys2Proof/Certificates/Slice0/Obligations.lean ====
section
/-!
DEFINITION. The statements for the provers. Each docstring says which rules of spec/ it formalises, or that it is the model's
choice. A frame is written as an equation: the state after is the state before with the named blocks as they stand after.
-/

open Sys2Proof Sys2Proof.Machine

/-! ### The step -/

/-- A step takes the command at the front of the queue and is its meaning on the state with the queue's rest. -/
def Obligations.StepRunsFrontCommand : Prop :=
  ∀ (c : Instr) (rest : List Instr) (s : State), s.pending = c :: rest → step s = exec c (s.withPending rest)

/-- THE MODEL'S CHOICE (notes/assumptions/2.md, 5.md): every command has a next state, whatever the state and the operands, also
where its event cannot occur, and leaves the queue of commands alone. -/
def Obligations.EveryCommandGoesOn : Prop :=
  ∀ (c : Instr) (s : State), ∃ t, exec c s = .next t ∧ t.pending = s.pending

/-- THE MODEL'S CHOICE (notes/assumptions/1.md, 3.md, 4.md, 32.md): what a step is with no command waiting. The idle time of the
line starts anew where another station's post has begun. While a timer of the part has run out, or the line stands idle with
a post to offer, one of the commands due is brought and no time passes. Otherwise a millisecond passes: every timer that
runs moves by 1 ms, nothing else changes, and one of the commands then due, if any is, waits. -/
def Obligations.IdleMillisecond : Prop :=
  ∀ s : State, s.pending = [] →
    let isDue (x : State) (c : Instr) : Prop :=
      (c = .ownRoundExpiry ∧ x.round.timer = some 0) ∨ (c = .foldWindowExpiry ∧ x.round.foldWindow = some 0) ∨
      (c = .probeStepEnd ∧ x.port.port = .probing ∧ x.station.off = false ∧ x.port.stepLeft = 0) ∨
      (c = .listenEnd ∧ x.start.listenLeft = some 0) ∨ (c = .thresholdLowering ∧ x.hinge.lowering = some 0) ∨
      (c = .shelfWaitExpiry (Config.vinAtShelfWait x.clock) ∧ x.station.state = .shelf ∧ x.station.off = false ∧
        x.station.shelfWait = some 1000) ∨
      (c = .lineIdle ∧ x.receiving = true ∧ x.line.offering = true ∧ x.line.idleUs = 240 ∧ x.line.sending = none ∧
        x.line.waiting ≠ 0)
    let u : State := { s with line := { s.line with
      idleUs := if Config.otherBegins s.clock s.line.waiting then 0 else s.line.idleUs } }
    ∃ t, step s = .next t ∧
      ((∃ c, isDue u c) → ∃ c, isDue u c ∧ t = { u with pending := [c] }) ∧
      ((∀ c, ¬isDue u c) →
        t = { u with
          pending := t.pending
          clock := u.clock + 1
          round := { u.round with timer := u.round.timer.map (· - 1), foldWindow := u.round.foldWindow.map (· - 1) }
          hinge := { u.hinge with lowering := u.hinge.lowering.map (· - 1) }
          port := { u.port with stepLeft := u.port.stepLeft - 1 }
          charger := { u.charger with stay := if u.station.off then u.charger.stay else min 600000 (u.charger.stay + 1) }
          start := { u.start with listenLeft := u.start.listenLeft.map (· - 1) }
          station := { u.station with shelfWait := u.station.shelfWait.map fun w => min 1000 (w + 1) } } ∧
        (t.pending = [] ∧ (∀ c, ¬isDue t c) ∨ ∃ c, isDue t c ∧ t.pending = [c]))

/-! ### Resets and the start -/

/-- After a power-on reset every block holds the values that the rules give, where they give them (R1, R25, R56, R61, R80, R97,
R113, R128, R146, R162, R175). Where they give none the model has chosen, and this says nothing. The state is sound. THE
MODEL'S CHOICE (notes/assumptions/9.md) is that the values it chose are sound too. -/
def Obligations.ResetValues : Prop :=
  let r := State.reset
  r.round.timer = none ∧ r.round.stamp = 0 ∧ r.round.inFlight = false ∧ r.round.earlyRequest = false ∧
  (∀ c ∈ r.round.channels.all, c.plausible = true ∧ c.held = none) ∧ r.round.lastL = none ∧ r.round.seq = 0 ∧
  r.round.composed = none ∧ r.round.posted = none ∧ r.gauge.residue = 0 ∧ r.gauge.learning = false ∧ r.gauge.span = 0 ∧
  r.gauge.overrun = 0 ∧ r.gauge.previous = none ∧ r.accrued.byte = 0 ∧ r.apply.proposal = ⟨0, 0, 0⟩ ∧ r.apply.posted = none ∧
  r.apply.draw = 0 ∧ r.apply.charge = 0 ∧ r.apply.link = 0 ∧ r.apply.unansweredHold = false ∧
  r.apply.rewritePending = false ∧ r.apply.drawMa = 0 ∧ r.apply.chargeMa = 0 ∧ r.apply.linkMa = 0 ∧
  r.hinge.link = .opened ∧ r.hinge.limit = 0 ∧ r.hinge.limitDir = .none ∧ r.hinge.threshold = 100 ∧
  r.hinge.unanswered = 0 ∧ r.hinge.sinceEntry = false ∧
  r.hinge.barring = .rounds 0 ∧ r.hinge.history = [] ∧ r.port.port = .detached ∧ r.port.switchClosed = false ∧
  r.port.attachCount = 0 ∧ r.port.attachMv = none ∧ r.port.step = none ∧ r.port.lastHeld = none ∧ r.port.probed = none ∧
  r.port.drawLimit = 0 ∧ r.port.wake = .off ∧ r.charger.phase = .holdOff ∧ r.charger.band = none ∧
  r.charger.setpoint = 0 ∧ r.charger.limitMa = 0 ∧ r.charger.ceilingLatch = false ∧ r.charger.termination = 0 ∧
  r.charger.prechargeTimer = 0 ∧ r.charger.bulkTimer = 0 ∧ r.charger.stay = 0 ∧ r.charger.timeoutHeld = false ∧
  r.line.waiting = 0 ∧ r.line.sending = none ∧ r.line.receiveBuffer = [] ∧ r.line.idleUs = 0 ∧ r.line.lowUs = 0 ∧
  r.line.offering = false ∧ r.line.stuck = false ∧
  r.peers = [] ∧ r.station.state = .start ∧ r.station.latchPending = false ∧ r.station.mutePending = false ∧
  r.station.stuckHold = false ∧ r.station.crowd = false ∧ r.station.shelfWait = none ∧ r.start.record.stage = 1 ∧
  r.start.straps.degradedPin = false ∧ r.fault.dischargeClosed = true ∧ r.fault.armed = false ∧
  r.fault.halting = ⟨none, []⟩ ∧ r.fault.degraded = ⟨none, []⟩ ∧
  r.fault.line = ⟨0, false⟩ ∧ r.fault.link = ⟨0, false⟩ ∧ r.fault.allot = ⟨0, false⟩ ∧ r.fault.gauge = ⟨0, false⟩ ∧
  r.fault.fltAsserted = false ∧ r.policy.contract = none ∧ r.policy.ceiling = 1000 ∧ r.policy.balance = true ∧ State.reset.Sound

/-- POWER_ON_RESET brings every block to its power-on values, whatever stood before, but for the queue and the clock of the
model. WARM_RESET, in any state, does the same, but that the gauge keeps count, residue and capacity, the fault unit its
log, counters and overflow flags, and the start sequencer the profile in use, which the next PROFILE stage chooses; RESET_N
is low. RESET_N_RISE then begins the start at STRAPS, with its record cleared, and changes nothing else; with RESET_N
already high nothing happens (R148, R27, R162, R24, R152). THE MODEL'S CHOICES within: what STRAPS and PROFILE set later
(notes/assumptions/9.md), the start record cleared at both (10.md), the comparators not asserted (24.md), no effect with
RESET_N high already (2.md), queue and clock kept (5.md). -/
def Obligations.Resets : Prop :=
  ∀ s : State,
    exec .powerOnReset s = .next { State.reset with pending := s.pending, clock := s.clock } ∧
    exec .warmReset s = .next { State.reset with
      pending := s.pending
      clock := s.clock
      gauge := { s.gauge with learning := false, span := 0, overrun := 0, previous := none }
      start := { State.reset.start with profile := s.start.profile }
      fault := { State.reset.fault with
        halting := s.fault.halting, degraded := s.fault.degraded, line := s.fault.line, link := s.fault.link,
        allot := s.fault.allot, gauge := s.fault.gauge }
      pins := { s.pins with resetNHigh := false } } ∧
    (s.pins.resetNHigh = false →
      exec .resetNRise s = .next { s with
        pins := { s.pins with resetNHigh := true }
        start := { s.start with record := ⟨1, .none, .none, .none, .none, none, [0, 0, 0, 0]⟩ } }) ∧
    (s.pins.resetNHigh = true → exec .resetNRise s = .next s)

/-- Exit from SHELF after switch-off, by the input wake detector or by an edge on FOLD: the values are those of a warm reset,
with RESET_N as it stands, and the start stands at STRAPS (R160, R111, R148). THE MODEL'S CHOICES within: what STRAPS and
PROFILE set later (notes/assumptions/9.md) and the comparators not asserted (24.md). -/
def Obligations.ShelfExit : Prop :=
  ∀ (c : Instr) (s : State), s.station.off = true →
    ((∃ v, c = .wakeEvent (.input v) ∧ 4300 ≤ v ∧ s.port.wake = .waitingForHigh) ∨
      (∃ b, (c = .wakeEvent (.fold b) ∨ c = .foldEdge b) ∧ s.start.straps.foldFitted = true)) →
    ∃ t, exec c s = .next t ∧ t.station = State.reset.station ∧ t.start.record = State.reset.start.record ∧
      t.start.profile = s.start.profile ∧ t.peers = [] ∧ t.line = State.reset.line ∧ t.round = State.reset.round ∧
      t.apply = State.reset.apply ∧ t.accrued = State.reset.accrued ∧ t.hinge = State.reset.hinge ∧
      t.port = State.reset.port ∧ t.charger = State.reset.charger ∧ t.policy = State.reset.policy ∧
      t.gauge.count = s.gauge.count ∧ t.gauge.residue = s.gauge.residue ∧ t.gauge.capacity = s.gauge.capacity ∧
      t.gauge.learning = false ∧ t.gauge.span = 0 ∧ t.gauge.overrun = 0 ∧ t.gauge.previous = none ∧
      t.fault.halting = s.fault.halting ∧ t.fault.degraded = s.fault.degraded ∧ t.fault.line = s.fault.line ∧
      t.fault.link = s.fault.link ∧ t.fault.allot = s.fault.allot ∧ t.fault.gauge = s.fault.gauge ∧
      t.fault.fltAsserted = false ∧ t.fault.dischargeClosed = true ∧ t.fault.armed = false ∧
      t.pins.resetNHigh = s.pins.resetNHigh

/-- STRAPS_COMPLETE at stage 1 of a start: the straps decode as the table of R147 gives, the port is ABSENT with no input fitted
(R99), the fold state is taken from the pin with a sensor fitted (R15), the record says OK or FALLBACK, and STRAP_INVALID is
logged exactly with an invalid field. Gauge, charger, apply unit, hinge link stage, peers and policy are left alone. -/
def Obligations.StrapsComplete : Prop :=
  ∀ (s0 s1 s2 s3 : Fin 16) (foldHigh : Bool) (s : State),
    s.station.state = .start → s.start.record.stage = 1 → s.pins.resetNHigh = true →
    let invalid : Prop := 14 ≤ s0.val ∨ 9 ≤ s1.val ∨ s2.val % 4 = 3
    ∃ t, exec (.strapsComplete s0 s1 s2 s3 foldHigh) s = .next t ∧
      t.start.straps.address.toNat = (if 14 ≤ s0.val then 6 else s0.val / 2) ∧
      (t.start.straps.inputFitted = true ↔ s0.val % 2 = 1) ∧ t.start.straps.profileField = s1 ∧
      t.start.straps.hingeClass = 4000 + 2000 * (s2.val / 4) ∧
      t.start.straps.period = (if s2.val % 4 = 0 then 100 else if s2.val % 4 = 2 then 400 else 200) ∧
      (t.start.straps.foldFitted = true ↔ s3.val % 2 = 1) ∧ (t.start.straps.degradedPin = true ↔ s3.val / 2 % 2 = 1) ∧
      t.start.record = { s.start.record with
        stage := 2, strapsResult := t.start.record.strapsResult, levels := [s0, s1, s2, s3] } ∧
      (invalid → t.start.record.strapsResult = .fallback ∧ t.fault.Holds .strapInvalid) ∧
      (¬invalid → t.start.record.strapsResult = .ok ∧ t.fault = s.fault ∧ t.line = s.line) ∧
      t.port = { s.port with port := if s0.val % 2 = 1 then s.port.port else .absent } ∧
      t.round = { s.round with
        fold := if s3.val % 2 = 1 then (if foldHigh then .opened else .closed) else .none } ∧
      t = { s with
        start := t.start, port := t.port, round := t.round, fault := t.fault, line := t.line
        pins := { s.pins with foldHigh := foldHigh } }

/-- PROFILE_COMPLETE at stage 2: the profile in use is the strapped one, or under AUTO the one whose window of R20 holds the
reading, otherwise 0; the comparators are armed; the gauge is initialised exactly after a power-on reset (R26), with the
count of the OCV table; PROFILE_FALLBACK is logged exactly under AUTO without a match (R22, R23). -/
def Obligations.ProfileComplete : Prop :=
  ∀ (packId vCell : Nat) (s : State),
    s.station.state = .start → s.start.record.stage = 2 → s.pins.resetNHigh = true →
    let field := s.start.straps.profileField.val
    let inWindow (n : Nat) : Prop :=
      (n = 1 ∧ 90 ≤ packId ∧ packId ≤ 110) ∨ (n = 2 ∧ 140 ≤ packId ∧ packId ≤ 165) ∨ (n = 3 ∧ 200 ≤ packId ∧ packId ≤ 235) ∨
      (n = 4 ∧ 270 ≤ packId ∧ packId ≤ 310) ∨ (n = 5 ∧ 360 ≤ packId ∧ packId ≤ 410) ∨
      (n = 6 ∧ 470 ≤ packId ∧ packId ≤ 530) ∨ (n = 7 ∧ 620 ≤ packId ∧ packId ≤ 700) ∨ (n = 8 ∧ 820 ≤ packId ∧ packId ≤ 920)
    ∃ t, exec (.profileComplete packId vCell) s = .next t ∧ t.start.record.stage = 3 ∧
      t.start.record.profile = some t.start.profile ∧ t.fault.armed = true ∧
      (1 ≤ field → field ≤ 8 → t.start.profile.val = field ∧ t.start.record.profileResult = .ok) ∧
      (9 ≤ field → t.start.profile = 0 ∧ t.start.record.profileResult = .fallback) ∧
      (field = 0 → ∀ n, inWindow n → t.start.profile.val = n ∧ t.start.record.profileResult = .ok) ∧
      (field = 0 → (∀ n, ¬inWindow n) →
        t.start.profile = 0 ∧ t.start.record.profileResult = .fallback ∧ t.fault.Holds .profileFallback) ∧
      (field ≠ 0 ∨ (∃ n, inWindow n) → t.line = s.line ∧ t.fault = { s.fault with armed := true }) ∧
      (s.gauge.initPending = false → t.gauge = s.gauge) ∧
      (s.gauge.initPending = true →
        t.gauge = { s.gauge with
          count := qOcv vCell * (profileRow t.start.profile).capacity / 100, residue := 0
          capacity := (profileRow t.start.profile).capacity, learning := false, span := 0, overrun := 0
          initPending := false }) ∧
      t = { s with start := t.start, gauge := t.gauge, fault := t.fault, line := t.line } ∧
      t.start = { s.start with profile := t.start.profile, record := t.start.record }

/-- CELL_CHECK_COMPLETE at stage 3: LISTEN begins for two strapped round periods. With V_cell from the deep threshold to the
overvoltage level and −20.0 to 60.0 °C the stage passes and nothing else happens; otherwise START_CELL is logged, the
discharge switch opens and latch pending is set (R149, R150). -/
def Obligations.CellCheckComplete : Prop :=
  ∀ (vCell : Nat) (tCell : Int) (s : State),
    s.station.state = .start → s.start.record.stage = 3 → s.pins.resetNHigh = true →
    let passes : Prop :=
      s.profile.cutoffMv ≤ vCell + 200 ∧ vCell ≤ s.profile.chargeMv + 100 ∧ -40 ≤ tCell ∧ tCell ≤ 120
    ∃ t, exec (.cellCheckComplete vCell tCell) s = .next t ∧
      t.start = { s.start with
        cellCheck := some (vCell, tCell), listenLeft := some (2 * s.start.straps.period)
        record := { s.start.record with stage := 4, cellCheckResult := t.start.record.cellCheckResult } } ∧
      (passes → t.start.record.cellCheckResult = .ok ∧ t = { s with start := t.start }) ∧
      (¬passes →
        t.start.record.cellCheckResult = .failed ∧ t.fault.Holds .startCell ∧ t.fault.dischargeClosed = false ∧
        t.station = { s.station with latchPending := true } ∧
        t = { s with start := t.start, fault := t.fault, line := t.line, station := t.station })

/-- LISTEN_END at stage 4: stage 5 is reached, with the LISTEN result FAILED exactly with mute pending; the station enters MUTE
with mute pending, otherwise LATCHED with latch pending, otherwise PAIRED or SOLO by the partner and stuck hold; both marks
are cleared, the round timer starts with a sweep in flight, and offering is yes unless the line is stuck or the station MUTE
(R150, R151). THE MODEL'S CHOICE (notes/assumptions/5.md) is that the time left of LISTEN passes with it. -/
def Obligations.ListenEnd : Prop :=
  ∀ s : State, s.station.state = .start → s.start.record.stage = 4 → s.pins.resetNHigh = true →
    s.station.off = false →
    ∃ t, exec .listenEnd s = .next t ∧
      t.start = { s.start with
        listenLeft := none
        record := { s.start.record with
          stage := 5, listenResult := if s.station.mutePending then .failed else .ok } } ∧
      t.station.state = (if s.station.mutePending then .mute else if s.station.latchPending then .latched
        else if s.partner.isSome && !s.station.stuckHold then .paired else .solo) ∧
      t.station.latchPending = false ∧ t.station.mutePending = false ∧ t.station.stuckHold = s.station.stuckHold ∧
      t.round.timer = some s.start.straps.period ∧ t.round.inFlight = true ∧ t.round.stamp = s.round.stamp ∧
      t.line.offering = (!s.line.stuck && !s.station.mutePending) ∧
      (s.station.mutePending = true → t.line.waiting = 0) ∧
      (s.station.mutePending = false → s.station.latchPending = true → t.fault.dischargeClosed = false) ∧
      t.peers = s.peers ∧ t.gauge = s.gauge ∧ t.policy = s.policy ∧ t.accrued = s.accrued ∧ t.pins = s.pins ∧
      t.apply.draw = s.apply.draw ∧ t.apply.posted = s.apply.posted ∧ t.apply.proposal = s.apply.proposal ∧
      (s.station.latchPending = false → t.port = { s.port with stepLeft := t.port.stepLeft })

/-! ### Rounds and the fold window -/

/-- OWN_ROUND_EXPIRY: the stamp counts and wraps, the timer is reloaded and a sweep is in flight; every entry is older by one
round, STALE from age 3 and gone at age 10; a barring of 1 to 8 falls by 1, and at 0 the stage is OPEN (R2, R90, R154).
PARTNER_LOST is logged when the partner goes STALE while PAIRED, and the station is then no longer PAIRED. THE MODEL'S
CHOICE (notes/assumptions/5.md) is that the time left on the timer passes with it, for the clock and every timer. -/
def Obligations.OwnRoundExpiry : Prop :=
  ∀ (left : Nat) (s : State), s.round.timer = some left →
    ∃ t, exec .ownRoundExpiry s = .next t ∧ t.round.stamp = (s.round.stamp + 1) % 16777216 ∧
      t.round.timer = some s.start.straps.period ∧
      (s.station.state ≠ .start → s.station.state ≠ .shelf → t.round.inFlight = true) ∧
      t.peers = (s.peers.filter fun e => decide (e.age < 9)).map
        (fun e => { e with age := e.age + 1, stale := e.stale || decide (2 ≤ e.age) }) ∧
      (∀ n, s.hinge.barring = .rounds (n + 1) → t.hinge.barring = .rounds n) ∧
      (s.hinge.barring = .rounds 1 → t.hinge.link ≠ .barred) ∧
      (s.hinge.barring = .rounds 0 ∨ s.hinge.barring = .untilRelease → t.hinge.barring = s.hinge.barring) ∧
      (s.station.state = .paired → (∃ e, s.partner = some e ∧ (e.stale || decide (2 ≤ e.age)) = true) →
        t.fault.Holds .partnerLost ∧ t.station.state = .solo ∧ t.apply.link = 0) ∧
      t.clock = s.clock + left ∧ t.hinge.history = s.hinge.history ∧
      t.apply = { s.apply with link := t.apply.link, linkMa := t.apply.linkMa } ∧
      t.round.channels = s.round.channels ∧ t.round.seq = s.round.seq ∧ t.round.composed = s.round.composed ∧
      t.round.posted = s.round.posted ∧ t.round.lastL = s.round.lastL ∧ t.round.fold = s.round.fold ∧
      t.gauge = s.gauge ∧ t.accrued = s.accrued ∧ t.policy = s.policy ∧ t.pins = s.pins ∧
      t.port = { s.port with stepLeft := s.port.stepLeft - left } ∧ t.charger = { s.charger with stay := t.charger.stay } ∧
      t.start.record = s.start.record ∧ t.start.straps = s.start.straps ∧ t.start.profile = s.start.profile

/-- An edge on FOLD with the sensor fitted and the stages on brings MOVING and a window of 2000 ms, and requests an early sweep
exactly from OPEN or CLOSED; the expiry of the window takes the fold state from the pin and requests one. The request starts
a sweep with the round timer reloaded, or merges into the one in flight, and is discarded in START and SHELF. With no sensor
fitted FOLD is not read (R15, R3). THE MODEL'S CHOICE (notes/assumptions/5.md) is that the time left of the window passes
with its expiry. -/
def Obligations.FoldWindow : Prop :=
  ∀ (rising : Bool) (s : State), s.station.off = false →
    (s.start.straps.foldFitted = true →
      ∃ t, exec (.foldEdge rising) s = .next t ∧ t.round.fold = .moving ∧ t.round.foldWindow = some 2000 ∧
        t.pins = { s.pins with foldHigh := rising } ∧
        (if s.round.fold = .moving ∨ s.station.state = .start ∨ s.station.state = .shelf then
            t.round = { s.round with fold := .moving, foldWindow := some 2000 } ∧ t.hinge = s.hinge
          else if s.round.inFlight then
            t.round = { s.round with fold := .moving, foldWindow := some 2000, earlyRequest := true } ∧ t.hinge = s.hinge
          else
            t.round = { s.round with
              fold := .moving, foldWindow := some 2000, inFlight := true, timer := some s.start.straps.period } ∧
            t.hinge = { s.hinge with sinceEntry := decide (s.hinge.link = .send) || decide (s.hinge.link = .receive) }) ∧
        t = { s with round := t.round, hinge := t.hinge, pins := t.pins }) ∧
    (s.start.straps.foldFitted = false →
      exec (.foldEdge rising) s = .next { s with pins := { s.pins with foldHigh := rising } }) ∧
    (∀ left, s.round.foldWindow = some left →
      ∃ t, exec .foldWindowExpiry s = .next t ∧ t.round.foldWindow = none ∧
        t.round.fold = (if s.pins.foldHigh then .opened else .closed) ∧
        (s.station.state ≠ .start → s.station.state ≠ .shelf → t.round.inFlight = true) ∧
        t.round.channels = s.round.channels ∧ t.round.stamp = s.round.stamp ∧ t.round.seq = s.round.seq ∧
        t.round.composed = s.round.composed ∧ t.clock = s.clock + left ∧ t.apply = s.apply ∧ t.gauge = s.gauge ∧
        t.line = s.line ∧ t.fault = s.fault ∧ t.peers = s.peers ∧ t.policy = s.policy ∧ t.pins = s.pins ∧
        t.accrued = s.accrued ∧ t.hinge.link = s.hinge.link ∧ t.station.state = s.station.state)

/-! ### The sweep -/

/-- SWEEP_COMPLETE judges every channel by its window (R6): a reading within it is plausible and becomes the held reading; one
outside it is suspect and leaves the held reading, or takes the nearer bound where there is none. V_in and input current are
measured only with an input fitted. -/
def Obligations.SweepJudgesChannels : Prop :=
  ∀ (r : Readings) (s : State), s.round.inFlight = true →
    ∃ t, exec (.sweepComplete r) s = .next t ∧
      let judged (lo hi x : Int) (before after : Channel) : Prop :=
        if lo ≤ x ∧ x ≤ hi then after = ⟨true, some x⟩
        else after = ⟨false, some (before.held.getD (if x < lo then lo else hi))⟩
      let a := s.round.channels
      let b := t.round.channels
      judged 2000 4800 r.vCell a.vCell b.vCell ∧ judged 2500 5000 r.vSys a.vSys b.vSys ∧
      judged 0 9500 r.vHinge a.vHinge b.vHinge ∧ judged (-8000) 8000 r.iCell a.iCell b.iCell ∧
      judged 0 9000 r.iLoad a.iLoad b.iLoad ∧ judged (-2500) 2500 r.iHinge a.iHinge b.iHinge ∧
      judged (-80) 250 r.tCell a.tCell b.tCell ∧ judged (-80) 250 r.tHinge a.tHinge b.tHinge ∧
      (s.start.straps.inputFitted = true → judged 0 16000 r.vIn a.vIn b.vIn ∧ judged 0 3500 r.iIn a.iIn b.iIn) ∧
      (s.start.straps.inputFitted = false → b.vIn = a.vIn ∧ b.iIn = a.iIn)

/-- SWEEP_COMPLETE composes the own STATE of R16 and records it: station, port, fold and link states, balance flag and proposal
as they stand after the steps, the seq counter and the gauge's q. The sweep is no longer in flight and no request is
pending; the applied setpoints have fallen or stayed; what no step of R5 writes is as it was. THE MODEL'S CHOICE
(notes/assumptions/26.md) is how the measurement is dated. -/
def Obligations.SweepComposes : Prop :=
  ∀ (r : Readings) (s : State), s.round.inFlight = true →
    ∃ t c, exec (.sweepComplete r) s = .next t ∧ t.round.composed = some c ∧ c.seq = s.round.seq ∧
      c.station = t.station.state ∧ c.port = t.port.port ∧ c.fold = s.round.fold ∧ c.link = t.hinge.link ∧
      c.balance = s.policy.balance ∧ c.setting = t.apply.proposal ∧ c.code = t.apply.code ∧ c.figures.q = t.gauge.q ∧
      t.round.inFlight = false ∧ t.round.earlyRequest = false ∧ t.apply.draw ≤ s.apply.draw ∧
      t.apply.charge ≤ s.apply.charge ∧ t.apply.link.natAbs ≤ s.apply.link.natAbs ∧ 0 ≤ t.apply.link * s.apply.link ∧
      t.gauge.previous = some (s.clock - r.lag) ∧ t.round.timer = s.round.timer ∧ t.round.stamp = s.round.stamp ∧
      t.round.seq = s.round.seq ∧ t.round.posted = s.round.posted ∧ t.round.fold = s.round.fold ∧
      t.round.foldWindow = s.round.foldWindow ∧ t.apply.posted = s.apply.posted ∧ t.peers = s.peers ∧
      t.policy = s.policy ∧ t.start = s.start ∧ t.pins = s.pins ∧ t.clock = s.clock ∧
      t.hinge.barring = s.hinge.barring ∧ t.hinge.history = s.hinge.history ∧ t.line.sending = s.line.sending ∧
      (s.station.state = .mute → t.station.state = .mute ∧ t.line = s.line) ∧
      (s.station.state ≠ .mute → s.receiving = true → s.line.sending = none → t.line.alerts = s.line.alerts →
        (∀ q, s.line.state = some q →
          t.line.state = some ⟨⟨{ c with seq := q.post.contents.seq }, false⟩, 0⟩) ∧
        (s.line.state = none → s.line.waiting < 4 → t.line.state = some ⟨⟨c, false⟩, 0⟩))

/-- The figures S, L, Dmax and H and the marks of the STATE that SWEEP_COMPLETE composes are those of R9, R10, R13, R14 and R7,
on the held readings of the sweep and the port, station, fold and link states as they stand at composition; Cmax is that of
R12 by the phase posted, the band factor of R115 and the held V_cell and cell current: a HOLD_OFF charger posts what it
would take exactly when nothing but a charge setpoint is lacking. THE MODEL'S CHOICE (notes/assumptions/15.md) is the field
that holds the ceiling condition. -/
def Obligations.SweepFigures : Prop :=
  ∀ (r : Readings) (s : State), s.round.inFlight = true →
    ∃ t c, exec (.sweepComplete r) s = .next t ∧ t.round.composed = some c ∧
      let ch := t.round.channels
      let attach := t.port.attachMv.getD 0
      c.figures.s = (match t.port.port, s.policy.contract with
        | .holding, some k => min k 30000
        | .holding, none => min 30000 (t.port.probed.getD 0 * attach / 1000)
        | .probing, _ => min 30000 (t.port.step.getD 0 * attach / 1000)
        | _, _ => 0) ∧
      (∀ v i : Nat, ch.vSys.held = some (v : Int) → ch.iLoad.held = some (i : Int) →
        c.figures.l = min 30000 (v * i / 1000)) ∧
      (∀ (v : Nat) (t2 : Int), ch.vCell.held = some (v : Int) → ch.tCell.held = some t2 →
        c.figures.dmax =
          if v ≤ s.profile.cutoffMv ∨ t.station.state = .latched then 0
          else min 20000 (s.profile.maxDischargeMa * (if t2 < -40 then 25 else 100) / 100 * v / 1000)) ∧
      (∀ t2 : Int, ch.tHinge.held = some t2 →
        let base : Int :=
          if ch.tHinge.plausible = false then (s.start.straps.hingeClass : Int) / 4
          else if t2 ≤ 90 then s.start.straps.hingeClass
          else if t2 < 120 then s.start.straps.hingeClass * (120 - t2) / 30
          else 0
        (c.figures.h : Int) =
          if t.hinge.link = .barred then 0 else if s.round.fold = .moving then base / 2 else base) ∧
      c.marks =
        ⟨!ch.vIn.plausible && (decide (t.port.port = .probing) || decide (t.port.port = .holding)),
          !ch.vSys.plausible || !ch.iLoad.plausible, !ch.iCell.plausible, !ch.vCell.plausible || !ch.tCell.plausible,
          !ch.vCell.plausible || !ch.tCell.plausible, !ch.tHinge.plausible⟩ ∧
      (∀ (v : Nat) (i t2 : Int),
          t.round.channels.vCell.held = some (v : Int) → t.round.channels.iCell.held = some i →
          t.round.channels.tCell.held = some t2 →
          let factor : Nat := if t2 < 0 then 0 else if t2 < 20 then 50 else if t2 < 90 then 100 else if t2 < 110 then 50 else 0
          let gentle := min 20000 (s.profile.ccMa / 10 * factor / 100 * v / 1000)
          let full := min 20000 (s.profile.ccMa * factor / 100 * v / 1000)
          (c.phase = .precharge → c.figures.cmax = gentle) ∧ (c.phase = .bulk → c.figures.cmax = full) ∧
          (c.phase = .taper →
            c.figures.cmax = min 20000 (max (i.toNat + i.toNat / 10) s.profile.taperMa * v / 1000)) ∧
          (c.phase = .full → c.figures.cmax = 0) ∧
          (c.phase = .holdOff →
            c.figures.cmax =
              if (t.station.state = .solo ∨ t.station.state = .paired ∨ t.station.state = .mute) ∧
                  t.charger.ceilingHolds = true ∧ t.charger.timeoutHeld = false
              then (if v < 3000 then gentle else full) else 0))

/-- The gauge at SWEEP_COMPLETE. With a plausible current, and neither EMPTY nor entry into FULL, whole units of charge are taken
out of the residue, truncated toward zero, and added to the count, which stops at its bounds; what is clamped off joins the
overrun, which starts anew as the count reaches a bound or leaves it; an open learning window gathers the span; within the
bounds no charge is lost (R29, R30, R35). At EMPTY count, residue, overrun and span are 0 and the window is open (R33). A
suspect current counts nothing and closes the window (R31). At entry into FULL a span of 8 to 12 times nominal in an open
window becomes the capacity, count is ten times it, q is 1000 and the window is closed (R34). GAUGE counts a passing of 20
by the overrun and a span rejected at FULL. THE MODEL'S CHOICES within: the measurement's date (notes/assumptions/26.md), the
overrun's return to 0 before its units are added (33.md), each passing of 20 reported (34.md), a window closed before EMPTY
opens it (35.md). -/
def Obligations.SweepGauge : Prop :=
  ∀ (r : Readings) (s : State), s.round.inFlight = true → s.charger.termination ≤ 1 →
    ∃ t c, exec (.sweepComplete r) s = .next t ∧ t.round.composed = some c ∧
      ∀ v i : Int, t.round.channels.vCell.held = some v → t.round.channels.iCell.held = some i →
        let interval : Nat := match s.gauge.previous with
          | none => 0
          | some p => s.clock - r.lag - p
        let plausible : Bool := t.round.channels.iCell.plausible
        let discharged : Prop := v ≤ s.profile.cutoffMv ∧ i < 0
        let noFull : Prop := s.charger.phase = .taper → c.phase = .taper
        let top : Int := 10 * s.gauge.capacity
        let units : Int := (s.gauge.residue + i * interval).tdiv 360000
        let bounded : Int := max 0 (min (s.gauge.count + units) top)
        let clamped : Nat := (s.gauge.count + units - bounded).natAbs
        let atBound (n : Int) : Bool := decide (n = 0) || decide (n = top)
        let before : Nat :=
          if (s.gauge.count : Int) ≠ bounded ∧ (atBound bounded || atBound s.gauge.count) = true then 0 else s.gauge.overrun
        let overrun : Nat := min 65535 (before + clamped)
        let span : Int := if s.gauge.learning then max (-65535) (min 65535 (s.gauge.span + units)) else s.gauge.span
        let nominal : Int := s.profile.capacity
        let learns : Bool := s.gauge.learning && decide (8 * nominal ≤ span) && decide (span ≤ 12 * nominal)
        let full : Bool := decide (s.charger.phase ≠ .full) && decide (c.phase = .full)
        let clip : Bool := plausible && decide (before ≤ 20) && decide (20 < overrun)
        let reject : Bool := full && s.gauge.learning && !learns
        (discharged →
          t.gauge.count = 0 ∧ t.gauge.residue = 0 ∧ t.gauge.overrun = 0 ∧ t.gauge.span = 0 ∧ t.gauge.learning = true ∧
            t.gauge.capacity = s.gauge.capacity) ∧
        (¬discharged → plausible = false → noFull →
          t.gauge.count = s.gauge.count ∧ t.gauge.residue = s.gauge.residue ∧ t.gauge.learning = false ∧
            t.gauge.capacity = s.gauge.capacity ∧ t.gauge.overrun = s.gauge.overrun ∧
            t.gauge.span = if s.gauge.learning then 0 else s.gauge.span) ∧
        (¬discharged → plausible = true → noFull →
          (t.gauge.count : Int) = bounded ∧ t.gauge.overrun = overrun ∧ t.gauge.span = span ∧
            t.gauge.learning = s.gauge.learning ∧ t.gauge.capacity = s.gauge.capacity ∧ t.gauge.residue.natAbs < 360000 ∧
            (0 < t.gauge.count → t.gauge.count < 10 * s.gauge.capacity →
              360000 * (t.gauge.count : Int) + t.gauge.residue =
                360000 * (s.gauge.count : Int) + s.gauge.residue + i * interval)) ∧
        (full = true →
          t.gauge.capacity = (if learns then (span / 10).toNat else s.gauge.capacity) ∧
            t.gauge.count = 10 * t.gauge.capacity ∧ t.gauge.residue = 0 ∧ t.gauge.overrun = 0 ∧ t.gauge.learning = false ∧
            t.gauge.span = 0 ∧ (0 < s.gauge.capacity → c.figures.q = 1000)) ∧
        ((s.charger.phase = .taper → c.phase = .taper ∨ c.phase = .full) →
          let clipped : Counter := if clip then s.fault.gauge.bump else s.fault.gauge
          t.fault.gauge = if reject then clipped.bump else clipped)

/-- The input port at SWEEP_COMPLETE, where the station state stays: an attached port with V_in below 3800 mV is DETACHED
(R101); a BLOCKED port unblocks exactly on a plausible V_in below 13000 mV (R103); a DETACHED port counts a plausible V_in at
or above 4300 mV, clears the count on one below, leaves it on a suspect one, and attaches at the third, to HOLDING on a
contract, to HOLDING at 500 mA in LATCHED, and otherwise to a probe from 500 mA (R100, R104). A port HOLDING on a probed
limit has it lowered by 100 mA, to no less than 500 mA, exactly on a plausible V_in below 92 % of the attach voltage (R109). -/
def Obligations.SweepPort : Prop :=
  ∀ (r : Readings) (s : State), s.round.inFlight = true →
    ∃ t, exec (.sweepComplete r) s = .next t ∧
      (t.station.state = s.station.state →
        ∀ v : Nat, t.round.channels.vIn.held = some (v : Int) →
          let plausible : Bool := t.round.channels.vIn.plausible
          (s.port.attached = true → v < 3800 →
            t.port.port = .detached ∧ t.port.switchClosed = false ∧ t.port.attachMv = none ∧ t.port.probed = none ∧
              t.port.step = none) ∧
          (s.port.port = .blocked →
            t.port.port = if plausible ∧ v < 13000 then .detached else .blocked) ∧
          (s.port.port = .detached → plausible = true → 4300 ≤ v → s.port.attachCount = 2 →
            t.port.attachMv = some v ∧ t.port.switchClosed = true ∧ t.port.attachCount = 0 ∧
            (if s.policy.contract ≠ none then t.port.port = .holding ∧ t.port.probed = none
              else if s.station.state = .latched then t.port.port = .holding ∧ t.port.probed = some 500
              else t.port.port = .probing ∧ t.port.step = some 500 ∧ t.port.stepLeft = 20 ∧ t.port.lastHeld = none)) ∧
          (s.port.port = .detached → plausible = true → 4300 ≤ v → s.port.attachCount ≤ 1 →
            t.port = { s.port with attachCount := s.port.attachCount + 1, drawLimit := t.port.drawLimit }) ∧
          (s.port.port = .detached → plausible = true → v < 4300 →
            t.port = { s.port with attachCount := 0, drawLimit := t.port.drawLimit }) ∧
          (s.port.port = .detached → plausible = false → t.port = { s.port with drawLimit := t.port.drawLimit }) ∧
          (∀ n a, s.port.port = .holding → s.port.probed = some n → s.port.attachMv = some a → 3800 ≤ v →
            t.port = { s.port with
              drawLimit := t.port.drawLimit
              probed := if s.policy.contract = none ∧ plausible ∧ v < a * 92 / 100 then some (max 500 (n - 100))
                else some n }))

/-- The kinds that SWEEP_COMPLETE puts in the log are exactly: CELL_HOT with the held cell temperature above 60.0 °C, CELL_DEEP
with the held V_cell below the deep threshold, CHARGE_TIMEOUT with a safety timer run out, SENSOR_SUSPECT with a channel that
passes from plausible to suspect, and LOAD_SHORTFALL with an own shortfall in the composition run, whose result is the post's
G, C, X and code (R166, R125, R7, R57, R38). A run on a marked figure counts ALLOT_UNORDERED (R58). The first three latch a
SOLO or PAIRED station: the discharge switch is open, applied charge and link are 0, the charger is in HOLD_OFF, no probe
runs, and the STATE composed carries LATCHED with Cmax and Dmax 0 (R171). -/
def Obligations.SweepLatches : Prop :=
  ∀ (r : Readings) (s : State), s.round.inFlight = true →
    ∃ t c, exec (.sweepComplete r) s = .next t ∧ t.round.composed = some c ∧
      let hot : Prop := 120 < t.round.channels.tCell.value
      let deep : Prop := t.round.channels.vCell.value < s.profile.deepMv
      let expired : Prop := t.charger.timeoutHeld = true ∧ s.charger.timeoutHeld = false
      let suspect : Prop :=
        ∃ p ∈ s.round.channels.all.zip t.round.channels.all, p.1.plausible = true ∧ p.2.plausible = false
      let run := t.run (t.composedSet c)
      let marked (m : Marks) : Bool := m.s || m.l || m.q || m.cmax || m.dmax || m.h
      let partnerMarked : Bool := (t.partner.map fun e => marked e.marks).getD false
      (∀ k, t.fault.Holds k ↔
        s.fault.Holds k ∨ (k = .cellHot ∧ hot) ∨ (k = .cellDeep ∧ deep) ∨ (k = .chargeTimeout ∧ expired) ∨
          (k = .sensorSuspect ∧ suspect) ∨ (k = .loadShortfall ∧ 0 < run.1.shortfall)) ∧
      c.setting = run.1.setting ∧ c.code = run.2.code ∧ t.accrued = s.accrued.add run.2 ∧
      t.fault.allot =
        (if marked c.marks || (decide (t.station.state = .paired) && partnerMarked) then s.fault.allot.bump
          else s.fault.allot) ∧
      (s.station.state = .solo ∨ s.station.state = .paired → hot ∨ deep ∨ expired →
        t.station.state = .latched ∧ c.station = .latched ∧ c.figures.cmax = 0 ∧ c.figures.dmax = 0 ∧
          t.fault.dischargeClosed = false ∧ t.apply.charge = 0 ∧ t.apply.link = 0 ∧ t.charger.phase = .holdOff ∧
          t.port.port ≠ .probing)

/-- The charger at SWEEP_COMPLETE. The band is that of the held temperature (R115). The interval counts into the timer of the
phase that stood, while charging current flows (R123), and a timer at its limit brings HOLD_OFF with the timeout held
(R125). Otherwise the ceiling latch is judged on q (R116), charging is permitted by band, ceiling, station state and timeout
(R117), and the phase makes the one transition of its row of R119, with the termination count of R121 and the restarts of
R124: that is the phase posted, and, where the run then takes the whole charge away, PRECHARGE, BULK and TAPER are left for
HOLD_OFF (R120). What a HALTING kind of the sweep does is SweepLatches. THE MODEL'S CHOICES within: a held timeout does not
expire again (notes/assumptions/11.md), the order of R121's rows (12.md), the field of the ceiling condition (15.md), the
measurement's date (26.md). -/
def Obligations.SweepCharger : Prop :=
  ∀ (r : Readings) (s : State), s.round.inFlight = true → s.charger.setpoint = s.apply.charge →
    ∃ t c, exec (.sweepComplete r) s = .next t ∧ t.round.composed = some c ∧
      t.charger.setpoint = t.apply.charge ∧ t.charger.limitMa = t.apply.chargeMa ∧
      ∀ v i t2 : Int, t.round.channels.vCell.held = some v → t.round.channels.iCell.held = some i →
        t.round.channels.tCell.held = some t2 →
        let interval : Nat := match s.gauge.previous with
          | none => 0
          | some p => s.clock - r.lag - p
        let plausible : Bool := t.round.channels.iCell.plausible
        let from0 : Charger := s.charger
        let counts : Bool := if plausible then decide (0 < i) else decide (0 < from0.limitMa)
        let precharged : Nat :=
          from0.prechargeTimer + if from0.phase = .precharge ∧ counts = true then interval else 0
        let bulked : Nat :=
          from0.bulkTimer + if (from0.phase = .bulk ∨ from0.phase = .taper) ∧ counts = true then interval else 0
        let expired : Prop :=
          from0.timeoutHeld = false ∧ (1800000 ≤ precharged ∨ s.profile.limitMin * 60000 ≤ bulked)
        let ceiling : Nat := s.policy.ceiling
        let q : Nat := (s.gauge.sweep s.profile.cutoffMv plausible i v (s.clock - r.lag)).1.q
        let permitted : Bool :=
          decide (0 ≤ t2) && decide (t2 < 110) && t.charger.ceilingHolds && !from0.timeoutHeld &&
            (decide (s.station.state = .solo) || decide (s.station.state = .paired) || decide (s.station.state = .mute))
        let regulation : Int := s.profile.chargeMv - if 90 ≤ t2 ∧ t2 < 110 then 100 else 0
        let ended : Nat :=
          if plausible = false ∨ i < 0 then from0.termination
          else if (s.profile.taperMa : Int) ≤ i then 0
          else if from0.limitMa < s.profile.taperMa then from0.termination else from0.termination + 1
        let next : Phase := match from0.phase with
          | .holdOff => if permitted && decide (0 < from0.setpoint) then (if v < 3000 then .precharge else .bulk) else .holdOff
          | .precharge => if !permitted then .holdOff else if 3000 ≤ v then .bulk else .precharge
          | .bulk => if !permitted then .holdOff else if regulation ≤ v then .taper else .bulk
          | .taper => if !permitted then .holdOff else if 2 ≤ ended then .full else .taper
          | .full => if permitted && decide (v + 100 < s.profile.chargeMv) then .bulk else .full
        let begins : Bool := decide (from0.phase = .holdOff) && decide (next ≠ .holdOff) && decide (from0.stay = 600000)
        let again : Bool := decide (from0.phase = .full) && decide (next = .bulk)
        let loses : Bool := decide (0 < from0.setpoint) && decide (t.apply.charge = 0)
        t.charger.band = some (if t2 < -40 then .belowMinus20 else if t2 < 0 then .minus20To0 else if t2 < 20 then .from0To10
          else if t2 < 90 then .from10To45 else if t2 < 110 then .from45To55 else .from55) ∧
        (expired →
          t.charger.phase = .holdOff ∧ c.phase = .holdOff ∧ t.charger.timeoutHeld = true ∧ t.charger.termination = 0 ∧
            t.charger.stay = 0 ∧ t.charger.prechargeTimer = precharged ∧ t.charger.bulkTimer = bulked ∧
            t.charger.ceilingLatch = from0.ceilingLatch) ∧
        (¬expired → t.charger.timeoutHeld = from0.timeoutHeld ∧
          (ceiling = 1000 → t.charger.ceilingLatch = false ∧ t.charger.ceilingHolds = true) ∧
          (ceiling ≠ 1000 → ceiling ≤ q → t.charger.ceilingLatch = true ∧ t.charger.ceilingHolds = false) ∧
          (ceiling ≠ 1000 → q + 20 < ceiling → t.charger.ceilingLatch = false ∧ t.charger.ceilingHolds = true) ∧
          (ceiling ≠ 1000 → q < ceiling → ceiling ≤ q + 20 →
            t.charger.ceilingLatch = from0.ceilingLatch ∧ t.charger.ceilingHolds = !from0.ceilingLatch)) ∧
        (¬(from0.phase ≠ .full ∧ next = .full) → q = t.gauge.q) ∧
        (¬expired → t2 ≤ 120 → (s.profile.cutoffMv : Int) - 200 ≤ v →
          c.phase = next ∧
          t.charger.phase =
            (if loses = true ∧ (next = .precharge ∨ next = .bulk ∨ next = .taper) then .holdOff else next) ∧
          t.charger.prechargeTimer = (if begins || again then 0 else precharged) ∧
          t.charger.bulkTimer = (if begins || again then 0 else bulked) ∧
          (from0.phase = .taper → t.charger.phase = .taper → t.charger.termination = ended) ∧
          (from0.phase ≠ t.charger.phase → t.charger.phase ≠ .taper → t.charger.termination = 0) ∧
          t.charger.stay =
            if t.charger.phase = .holdOff ∧ (from0.phase ≠ .holdOff ∨ next ≠ .holdOff) then 0 else from0.stay)

/-- The unanswered check of SWEEP_COMPLETE (R85, R86, R71): in SEND or RECEIVE with a limit, on a sweep that began since the
entry and a plausible hinge current, a second short sweep counts LINK_UNANSWERED, sets the hold and brings the applied link
to 0; a first one counts up; a sweep that is not short clears the count. -/
def Obligations.SweepUnanswered : Prop :=
  ∀ (r : Readings) (s : State) (i : Int), s.round.inFlight = true → -2500 ≤ r.iHinge → r.iHinge ≤ 2500 →
    s.HingeSound → s.hinge.link = .send ∧ i = r.iHinge ∨ s.hinge.link = .receive ∧ i = -r.iHinge →
    0 < s.hinge.limit → s.hinge.sinceEntry = true →
    ∃ t, exec (.sweepComplete r) s = .next t ∧
      (4 * i < s.hinge.limit → 1 ≤ s.hinge.unanswered →
        t.apply.unansweredHold = true ∧ t.apply.link = 0 ∧ t.fault.link = s.fault.link.bump ∧ t.hinge.unanswered = 0) ∧
      (4 * i < s.hinge.limit → s.hinge.unanswered = 0 →
        t.fault.link = s.fault.link ∧ t.hinge.unanswered = 1 ∧ t.apply.unansweredHold = s.apply.unansweredHold) ∧
      ((s.hinge.limit : Int) ≤ 4 * i → t.hinge.unanswered = 0 ∧ t.fault.link = s.fault.link)

/-! ### Posts heard -/

/-- STATE_ARRIVAL from another P42: a post whose fields no P42 composes is discarded and counts LINE_CRC; any other is written
to its entry, FRESH with age 0, figures clamped, the last unsuspect L kept under a marked L, no other entry touched; a seq
other than one more counts LINE_GAP; stuck hold is cleared; PAIRED follows the partner from SOLO and PAIRED (R153, R155,
R157). -/
def Obligations.StateArrivalTaken : Prop :=
  ∀ (source : BitVec 3) (p : StatePost) (vIn : Nat) (s : State),
    s.receiving = true → source ≠ s.start.straps.address → source ≠ 7 →
    ∃ t, exec (.stateArrival source p vIn) s = .next t ∧
      let good : Prop :=
        1 ≤ p.station.toNat ∧ p.station.toNat ≤ 4 ∧ p.phase.toNat ≤ 4 ∧ p.port.toNat ≤ 4 ∧ p.outcome.toNat ≤ 6
      let before := entryAt source s.peers
      (¬good → t.fault.line = s.fault.line.bump ∧ t.peers = s.peers ∧ t.apply = { s.apply with
          rewritePending := t.apply.rewritePending } ∧ t.station.state = s.station.state) ∧
      (good →
        (∃ e, entryAt source t.peers = some e ∧ e.address = source ∧ e.stale = false ∧ e.age = 0 ∧ e.seq = p.seq.toNat ∧
          e.station.code = p.station.toNat ∧ e.link = linkOfCode p.link ∧ e.balance = p.balance ∧ e.marks = p.marks ∧
          e.figures = ⟨min 30000 p.s.toNat, min 30000 p.l.toNat, min 1000 p.q.toNat, min 20000 p.cmax.toNat,
            min 20000 p.dmax.toNat, min 10000 p.h.toNat⟩ ∧
          e.x = max (-10000) (min 10000 p.x.toInt) ∧
          e.lastL = if p.marks.l then before.bind Entry.lastL else some (min 30000 p.l.toNat)) ∧
        t.peers.map Entry.address =
          (if before = none then s.peers.map Entry.address ++ [source] else s.peers.map Entry.address) ∧
        (∀ a, a ≠ source → entryAt a t.peers = entryAt a s.peers) ∧ t.station.stuckHold = false ∧
        (s.station.state = .solo ∨ s.station.state = .paired →
          t.station.state = if t.partner = none then .solo else .paired) ∧
        (s.station.state ≠ .solo → s.station.state ≠ .paired → t.station.state = s.station.state) ∧
        ((∀ e, before = some e → p.seq.toNat = (e.seq + 1) % 256) → s.line.waiting < 4 → t.fault.line = s.fault.line) ∧
        (∀ e, before = some e → p.seq.toNat ≠ (e.seq + 1) % 256 → s.line.waiting < 4 →
          t.fault.line = s.fault.line.bump)) ∧
      t.round.seq = s.round.seq ∧ t.round.posted = s.round.posted ∧ t.round.composed = s.round.composed ∧
      t.round.channels = s.round.channels ∧ t.gauge = s.gauge ∧ t.policy = s.policy ∧ t.start = s.start ∧
      t.pins = s.pins ∧ t.clock = s.clock ∧ t.apply.posted = s.apply.posted ∧ t.apply.draw ≤ s.apply.draw ∧
      t.apply.charge ≤ s.apply.charge ∧ t.hinge.barring = s.hinge.barring ∧ t.hinge.history = s.hinge.history ∧
      (s.station.state ≠ .shelf → t.port = { s.port with drawLimit := t.port.drawLimit })

/-- The arrival of the partner's STATE at a station that is PAIRED once it has been taken clears the unanswered hold and leaves
the link as a full judgement finds it; with own composed contents an arrival run has replaced the proposal, and a waiting
own STATE that is not in transmission carries that proposal, with the run's code and everything else as composed (R39, R65,
R68). THE MODEL'S CHOICE (notes/assumptions/30.md) is the field that holds the run's code. -/
def Obligations.PartnerArrivalServed : Prop :=
  ∀ (source : BitVec 3) (p : StatePost) (vIn : Nat) (s : State), s.receiving = true →
    source ≠ s.start.straps.address → source ≠ 7 → 1 ≤ p.station.toNat ∧ p.station.toNat ≤ 4 →
    p.phase.toNat ≤ 4 → p.port.toNat ≤ 4 → p.outcome.toNat ≤ 6 →
    ∃ t, exec (.stateArrival source p vIn) s = .next t ∧
      (t.station.state = .paired → t.partner.map Entry.address = some source →
        t.apply.unansweredHold = false ∧ t.apply.link = t.judgedLink ∧
        (s.round.composed = none → t.apply.proposal = s.apply.proposal) ∧
        (∀ c e, s.round.composed = some c → t.partner = some e →
          let run := runWith (t.composedSet c) e.figureSet
          t.apply.proposal = run.1.setting ∧ t.apply.code = run.2.code ∧ t.accrued = s.accrued.add run.2 ∧
          (∀ q, s.line.state = some q → s.line.sending ≠ some .state →
            t.line.state = some ⟨⟨{ q.post.contents with setting := run.1.setting, code := run.2.code },
              q.post.final⟩, q.aborts⟩) ∧
          (s.line.state ≠ none → s.line.sending = some .state → t.apply.rewritePending = true ∧
            t.line.state = s.line.state)))

/-- An addressed LIMIT with order NONE stores contract, ceiling and balance, lowers the applied draw to a contract below it,
hands the contract to the port and requests an early sweep; nothing else changes (R176, R107, R70, R3). THE MODEL'S CHOICES
within: a contract of none begins a probe in SHELF before the switch-off as elsewhere (notes/assumptions/21.md), and what a
post heard leaves of the line's times (7.md). -/
def Obligations.LimitStores : Prop :=
  ∀ (p : LimitPost) (vIn : Nat) (s : State), s.receiving = true →
    p.target.toNat = s.start.straps.address.toNat ∨ p.target = 7 → p.order ≠ 1 → p.order ≠ 2 →
    let contract : Option Nat := if p.contract = 0xFFFF then none else some (min 30000 p.contract.toNat)
    ∃ t, exec (.limit p vIn) s = .next t ∧
      t.policy = ⟨contract, min 1000 (max 500 p.ceiling.toNat), decide (p.balance ≠ 0)⟩ ∧
      t.apply.draw = (match contract with
        | none => s.apply.draw
        | some k => min s.apply.draw k) ∧
      t.apply = { s.apply with draw := t.apply.draw, drawMa := t.apply.drawMa } ∧
      (contract ≠ none → s.port.port = .probing →
        t.port.port = .holding ∧ t.port.probed = some (s.port.lastHeld.getD 500) ∧ t.port.step = none) ∧
      (contract = none → s.port.port = .holding → s.port.probed = none →
        if s.station.state = .latched then t.port.port = .holding ∧ t.port.probed = some 500
        else t.port.port = .probing ∧ t.port.step = some 500 ∧ t.port.stepLeft = 20) ∧
      (s.port.port ≠ .probing ∨ contract = none → (s.port.port = .holding → contract ≠ none ∨ s.port.probed ≠ none) →
        t.port = { s.port with drawLimit := t.port.drawLimit }) ∧
      (s.station.state ≠ .start → s.station.state ≠ .shelf → t.round.inFlight = true) ∧
      (s.station.state = .start ∨ s.station.state = .shelf → t.round = s.round ∧ t.hinge = s.hinge) ∧
      t = { s with
        policy := t.policy, apply := t.apply, port := t.port
        round := { s.round with
          timer := t.round.timer, inFlight := t.round.inFlight, earlyRequest := t.round.earlyRequest }
        hinge := { s.hinge with sinceEntry := t.hinge.sinceEntry }
        line := { s.line with receiveBuffer := [], idleUs := 0, lowUs := 0 } }

/-- A LIMIT with the order SHELF or RELEASE is a LIMIT with order NONE followed by that order, all in one event; one addressed
to another station is discarded without effect. A SHELF order is refused silently in START, LATCHED, SHELF and MUTE (R176,
R178, R156). THE MODEL'S CHOICES within: SHELF_ORDER and RELEASE as the orders alone (notes/assumptions/8.md), and the
line's times (7.md). -/
def Obligations.LimitRoutesOrder : Prop :=
  ∀ (p : LimitPost) (vIn : Nat) (s : State),
    (s.receiving = true → p.target.toNat = s.start.straps.address.toNat ∨ p.target = 7 →
      ∃ u, exec (.limit { p with order := 0 } vIn) s = .next u ∧
        (p.order = 1 → exec (.limit p vIn) s = exec (.shelfOrder vIn) u) ∧
        (p.order = 2 → exec (.limit p vIn) s = exec .release u) ∧
        (p.order ≠ 1 → p.order ≠ 2 → exec (.limit p vIn) s = .next u)) ∧
    (s.receiving = true → p.target.toNat ≠ s.start.straps.address.toNat → p.target ≠ 7 →
      exec (.limit p vIn) s =
        .next { s with line := { s.line with receiveBuffer := [], idleUs := 0, lowUs := 0 } }) ∧
    (s.station.state ≠ .solo → s.station.state ≠ .paired → exec (.shelfOrder vIn) s = .next s)

/-- SHELF_ORDER in SOLO and PAIRED: the station is in SHELF with the sweep abandoned and the round timer stopped; proposal and
applied setpoints are 0, the charger is in HOLD_OFF and no probe runs; the final STATE, with the figures of the own composed
contents, G, C and X 0 and code 0, waits in place of a waiting STATE or joins the queue; composed while the line is stuck it
fails and the stages are off at once (R159, R19, R75, R126, R111, R142). THE MODEL'S CHOICES within: the final STATE is
recorded as composed (notes/assumptions/27.md), and the switch-off comes at the end of the command (18.md). -/
def Obligations.ShelfOrderEnters : Prop :=
  ∀ (vIn : Nat) (s : State), s.station.state = .solo ∨ s.station.state = .paired → s.receiving = true →
    ∃ t c, exec (.shelfOrder vIn) s = .next t ∧ t.round.composed = some c ∧ t.station.state = .shelf ∧
      t.round.timer = none ∧ t.round.inFlight = false ∧ t.round.earlyRequest = false ∧ t.apply.proposal = ⟨0, 0, 0⟩ ∧
      t.apply.draw = 0 ∧ t.apply.charge = 0 ∧ t.apply.link = 0 ∧ t.apply.posted = s.apply.posted ∧
      t.charger.phase = .holdOff ∧ t.charger.stay = 0 ∧ t.charger.prechargeTimer = s.charger.prechargeTimer ∧
      t.charger.bulkTimer = s.charger.bulkTimer ∧ t.port.port ≠ .probing ∧ t.hinge.barring = s.hinge.barring ∧
      c.station = .shelf ∧ c.setting = ⟨0, 0, 0⟩ ∧ c.code = 0 ∧ c.phase = .holdOff ∧ c.port = t.port.port ∧
      c.link = t.hinge.link ∧ c.balance = s.policy.balance ∧ c.seq = s.round.seq ∧
      (∀ d, s.round.composed = some d → c.figures = d.figures ∧ c.marks = d.marks) ∧
      (s.round.composed = none → c.figures = ⟨0, 0, 0, 0, 0, 0⟩ ∧ c.marks = ⟨false, false, false, false, false, false⟩) ∧
      (s.line.stuck = false → s.line.sending = some .state → s.line.state ≠ none →
        t.round.held = some ⟨c, true⟩ ∧ t.line = s.line ∧ t.station.off = false ∧ t.station.shelfWait = some 0) ∧
      (s.line.stuck = false → s.line.sending ≠ some .state → s.line.state ≠ none ∨ s.line.waiting < 4 →
        t.line.state = some ⟨⟨{ c with
          seq := (s.line.state.map fun q => q.post.contents.seq).getD s.round.seq }, true⟩, 0⟩ ∧
        t.station.off = false ∧ t.station.shelfWait = some 0 ∧ t.fault = s.fault) ∧
      (s.line.stuck = true → s.round.held = none → (∀ q, s.line.state = some q → q.post.final = false) →
        t.station.off = true ∧ t.line.waiting = 0 ∧ t.line.offering = false ∧ t.fault.dischargeClosed = false ∧
          t.fault.armed = false ∧ t.port.switchClosed = false) ∧
      t.gauge = s.gauge ∧ t.peers = s.peers ∧ t.policy = s.policy ∧ t.accrued = s.accrued ∧ t.start = s.start ∧
      t.pins = s.pins ∧ t.clock = s.clock

/-- RELEASE in SOLO and PAIRED clears the barring and the trip history and nothing else but the link, which a barring cleared
leaves as a full judgement finds it, outside BARRED; in START, SHELF and MUTE it is refused silently (R92, R178, R156). -/
def Obligations.ReleaseClearsBarring : Prop :=
  ∀ s : State,
    (s.station.state = .start ∨ s.station.state = .shelf ∨ s.station.state = .mute → exec .release s = .next s) ∧
    (s.station.state = .solo ∨ s.station.state = .paired → s.hinge.barring = .rounds 0 →
      exec .release s = .next { s with hinge := { s.hinge with history := [] } }) ∧
    (s.station.state = .solo ∨ s.station.state = .paired → s.hinge.barring ≠ .rounds 0 →
      ∃ t, exec .release s = .next t ∧ t.hinge.barring = .rounds 0 ∧ t.hinge.history = [] ∧ t.hinge.link ≠ .barred ∧
        t.apply.link = t.judgedLink ∧
        t = { s with
          hinge := t.hinge, apply := { s.apply with link := t.apply.link, linkMa := t.apply.linkMa } })

/-- RELEASE in LATCHED is accepted exactly when V_cell and the cell temperature have been measured since the start and were
plausible, V_cell lies from the deep threshold to the overvoltage level, the temperature is at most 55.0 °C and no
comparator is asserted (R172). Accepted, it closes the discharge switch, leads to PAIRED or SOLO by the partner and stuck
hold with a sweep in flight, restarts the timers, clears the barring and probes a port HOLDING on a probed limit without a
contract. -/
def Obligations.ReleaseFromLatched : Prop :=
  ∀ s : State, s.station.state = .latched → s.LinkBounded →
    let accepted : Prop := ∃ v t2 : Int,
      s.round.channels.vCell = ⟨true, some v⟩ ∧ s.round.channels.tCell = ⟨true, some t2⟩ ∧
      (s.profile.cutoffMv : Int) - 200 ≤ v ∧ v ≤ s.profile.chargeMv + 100 ∧ t2 ≤ 110 ∧
      s.fault.overvoltAsserted = false ∧ s.fault.overcurrentAsserted = false
    (¬accepted → exec .release s = .next s) ∧
    (accepted →
      ∃ t, exec .release s = .next t ∧ t.fault.dischargeClosed = true ∧
        t.station.state = (if s.partner.isSome && !s.station.stuckHold then .paired else .solo) ∧
        t.round.inFlight = true ∧ t.charger = { s.charger with
          prechargeTimer := 0, bulkTimer := 0, timeoutHeld := false } ∧
        t.hinge.barring = .rounds 0 ∧ t.hinge.history = [] ∧ t.hinge.link = (if s.hinge.barring = .rounds 0 then s.hinge.link
          else linkStateOf t.apply.link) ∧
        (s.port.port = .holding → s.policy.contract = none → s.port.probed ≠ none →
          t.port = { s.port with
            port := .probing, switchClosed := true, step := some 500, stepLeft := 20, lastHeld := none, probed := none }) ∧
        (s.port.port ≠ .holding ∨ s.policy.contract ≠ none ∨ s.port.probed = none → t.port = s.port) ∧
        (∀ k, s.fault.Holds k → t.fault.Holds k) ∧ t.fault.link = s.fault.link ∧ t.fault.allot = s.fault.allot ∧
        t.fault.gauge = s.fault.gauge ∧ (s.station.crowd = true → t.fault.fltAsserted = s.fault.fltAsserted) ∧
        t.apply = { s.apply with link := t.apply.link, linkMa := t.apply.linkMa } ∧ t.gauge = s.gauge ∧
        t.peers = s.peers ∧ t.policy = s.policy ∧ t.accrued = s.accrued ∧ t.start = s.start ∧ t.pins = s.pins ∧
        t.clock = s.clock)

/-! ### Queries -/

/-- The six items that change nothing, taken with fewer than two REPLY posts waiting: READ_FIRST, READ_NEXT, READ_COUNTERS,
READ_PROFILE, READ_START and BAD_ITEM each hand one REPLY, with the item's number, status OK, EMPTY or BAD_ITEM (R180) and
the 18 content bytes of R181, written out here byte by byte. It joins a queue of fewer than four; in MUTE it is discarded
without count, and at a full queue with TX_DROP. THE MODEL'S CHOICES within: an invalid profile field read as 0
(notes/assumptions/17.md), the bounds of the hinge temperature byte (31.md), and the line's times (7.md). -/
def Obligations.ReadingQueries : Prop :=
  ∀ (target item argument other : Byte) (k : Machine.Class) (s : State), s.receiving = true →
    target.toNat = s.start.straps.address.toNat ∨ target = 7 → s.line.replies.length < 2 →
    (argument = 1 ∧ k = .degraded) ∨ (argument = 2 ∧ k = .halting) →
    10 ≤ item.toNat ∨ item = 0 ∨ ((item = 1 ∨ item = 2 ∨ item = 5) ∧ other ≠ 1 ∧ other ≠ 2) →
    let byte (n : Nat) : Byte := BitVec.ofNat 8 n
    let two (n : Nat) : List Byte := [byte (n / 256), byte n]
    let flag (b : Bool) : Byte := if b then 1 else 0
    let temperature (t2 : Int) : Byte := if t2 < -80 then 0 else if 175 < t2 then 255 else byte (t2 + 80).toNat
    let zeros (n : Nat) : List Byte := List.replicate n 0
    let stationCode (x : StationState) : Nat := match x with
      | .start => 0 | .solo => 1 | .paired => 2 | .latched => 3 | .shelf => 4 | .mute => 5
    let phaseCode (x : Phase) : Nat := match x with
      | .holdOff => 0 | .precharge => 1 | .bulk => 2 | .taper => 3 | .full => 4
    let portCode (x : PortState) : Nat := match x with
      | .absent => 0 | .detached => 1 | .probing => 2 | .holding => 3 | .blocked => 4
    let linkCode (x : LinkState) : Nat := match x with
      | .opened => 0 | .send => 1 | .receive => 2 | .barred => 3
    let directionCode (x : Direction) : Nat := match x with
      | .none => 0 | .send => 1 | .receive => 2
    let resultCode (x : StageResult) : Nat := match x with
      | .none => 0 | .ok => 1 | .fallback => 2 | .failed => 3
    let first (r : FaultRecord) : List Byte :=
      [byte r.kind.number, if r.kind.number ≤ 6 then 2 else 1, byte (r.stamp / 65536), byte (r.stamp / 256), byte r.stamp,
        byte (stationCode r.station), byte (16 * phaseCode r.phase + portCode r.port),
        byte (64 * linkCode r.link + directionCode r.linkDir)] ++ two r.vCell.toNat ++
      [temperature r.tCell, temperature r.tHinge] ++ two r.drawMa ++ two r.chargeMa ++ two r.linkMa
    let log : ClassLog := match k with
      | .degraded => s.fault.degraded
      | .halting => s.fault.halting
    let kinds (low : Nat) : Byte :=
      byte ((List.range 8).map fun i => if ∃ j ∈ log.next, j.number = low + i then 2 ^ i else 0).sum
    let counter (c : Counter) : Byte := byte (c.value + if c.overflow then 128 else 0)
    let profile (n : Fin 9) : List Byte :=
      let p := profileRow n
      let window := p.idWindow.getD (0, 0)
      [byte n.val] ++ two p.capacity ++ two p.chargeMv ++ two p.ccMa ++ [byte p.taperMa] ++ two p.maxDischargeMa ++
        two p.cutoffMv ++ [byte (window.1 / 5), byte (window.2 / 5), byte (p.limitMin / 10)] ++ two s.gauge.capacity ++ zeros 1
    let record := s.start.record
    let straps := s.start.straps
    let level (n : Nat) : Nat := ((record.levels[n]?).getD 0).val
    let start : List Byte :=
      [byte record.stage, byte (resultCode record.strapsResult), byte (resultCode record.profileResult),
        byte (resultCode record.cellCheckResult), byte (resultCode record.listenResult),
        byte ((record.profile.map Fin.val).getD 255), byte (16 * level 0 + level 1), byte (16 * level 2 + level 3),
        byte straps.address.toNat, flag straps.inputFitted,
        byte (if straps.profileField.val ≤ 8 then straps.profileField.val else 0)] ++ two straps.hingeClass ++
      two straps.period ++ [flag straps.foldFitted, flag straps.degradedPin] ++ zeros 1
    let answer (n : Byte) (content : Option (List Byte)) : ReplyContents := match content with
      | none => ⟨n, .empty, zeros 18⟩
      | some bytes => ⟨n, .ok, bytes⟩
    ∀ c r, (c, r) ∈ [(Instr.readFirst target argument, answer 1 (log.first.map first)),
        (Instr.readNext target argument,
          answer 2 (if log.next = [] then none else some ([kinds 1, kinds 9, kinds 17] ++ zeros 15))),
        (Instr.readCounters target argument,
          answer 3 (some ([counter s.fault.line, counter s.fault.link, counter s.fault.allot, counter s.fault.gauge] ++ zeros 14))),
        (Instr.readProfile target argument, answer 8 (record.profile.map profile)),
        (Instr.readStart target argument, answer 9 (some start)),
        (Instr.badItem target item other, ⟨item, .badItem, zeros 18⟩)] →
      exec c s = .next { s with
        line := { s.line with
          replies := if s.station.state ≠ .mute ∧ s.line.waiting < 4 then s.line.replies ++ [⟨r, 0⟩] else s.line.replies
          receiveBuffer := [], idleUs := 0, lowUs := 0 }
        fault := if s.station.state ≠ .mute ∧ 4 ≤ s.line.waiting then { s.fault with line := s.fault.line.bump }
          else s.fault }

/-- The four items that act, taken with fewer than two REPLY posts waiting: READ_FLAGS answers with the accrued set and empties
it, CLEAR_LOG empties the class named and leaves the other, CLEAR_COUNTERS clears the four counters and flags, ACK_PIN
releases the pin (R56, R173, R174, R170, R180). Each hands its REPLY, with status OK: it joins a queue of fewer than four; at
a full queue it is discarded with TX_DROP, and in MUTE without count, the item having acted (R137, R179). THE MODEL'S CHOICE
(notes/assumptions/7.md) is what a post heard leaves of the line's times. -/
def Obligations.ActingQueries : Prop :=
  ∀ (target argument : Byte) (k : Machine.Class) (s : State), s.receiving = true →
    target.toNat = s.start.straps.address.toNat ∨ target = 7 → s.line.replies.length < 2 →
    (argument = 1 ∧ k = .degraded) ∨ (argument = 2 ∧ k = .halting) →
    let zeros : List Byte := List.replicate 18 0
    let a := s.accrued
    let weight (b : Bool) (w : Nat) : Nat := if b then w else 0
    let flags : Nat := weight a.shortfall 32 + weight a.unordered 16 + weight a.clampHinge 8 + weight a.clampCell 4 +
      weight a.unused 2 + weight a.inexact 1
    let answered (r : ReplyContents) : LineController :=
      { s.line with
        replies := if s.station.state ≠ .mute ∧ s.line.waiting < 4 then s.line.replies ++ [⟨r, 0⟩] else s.line.replies
        receiveBuffer := [], idleUs := 0, lowUs := 0 }
    let dropped (f : FaultUnit) : FaultUnit :=
      if s.station.state ≠ .mute ∧ 4 ≤ s.line.waiting then { f with line := f.line.bump } else f
    exec (.readFlags target argument) s = .next { s with
      accrued := ⟨false, false, false, false, false, false⟩
      fault := dropped s.fault
      line := answered ⟨4, .ok, BitVec.ofNat 8 flags :: List.replicate 17 0⟩ } ∧
    exec (.clearLog target argument) s = .next { s with
      fault := dropped (match k with
        | .degraded => { s.fault with degraded := ⟨none, []⟩ }
        | .halting => { s.fault with halting := ⟨none, []⟩ })
      line := answered ⟨5, .ok, zeros⟩ } ∧
    exec (.clearCounters target argument) s = .next { s with
      fault := dropped
        { s.fault with line := ⟨0, false⟩, link := ⟨0, false⟩, allot := ⟨0, false⟩, gauge := ⟨0, false⟩ }
      line := answered ⟨6, .ok, zeros⟩ } ∧
    exec (.ackPin target argument) s = .next { s with
      fault := dropped { s.fault with fltAsserted := false }
      line := answered ⟨7, .ok, zeros⟩ }

/-! ### Posts that are not taken -/

/-- ADDRESS_CLASH: the kind is logged without an ALERT; SOLO, PAIRED and LATCHED lead to MUTE, with the queue emptied, nothing
offered or sent and the applied link 0; START is marked mute pending; SHELF and MUTE keep their state. Proposal, posted
proposal, applied draw and charge stand (R137, R161, R73). INVALID_POST counts LINE_CRC and DISCARDED_POST counts nothing;
neither changes anything but the receive buffer (R135). A QUERY of any item taken while two REPLY posts wait counts
QUERY_OVERRUN and does nothing else; one addressed to another station does nothing at all (R179). THE MODEL'S CHOICES within:
the line's times (notes/assumptions/7.md), and DISCARDED_POST with bits of no valid post, or a QUERY command whose item or
class is another's (2.md). -/
def Obligations.PostsNotTaken : Prop :=
  ∀ (bits : List Bool) (target item argument : Byte) (q : Instr) (s : State), s.receiving = true →
    q ∈ [Instr.readFirst target argument, .readNext target argument, .readCounters target argument,
      .readFlags target argument, .clearLog target argument, .clearCounters target argument, .ackPin target argument,
      .readProfile target argument, .readStart target argument, .badItem target item argument] →
    let heard : LineController := { s.line with receiveBuffer := [], idleUs := 0, lowUs := 0 }
    let toUs : Prop := target.toNat = s.start.straps.address.toNat ∨ target = 7
    (validPost bits = none →
      exec (.invalidPost bits) s = .next { s with line := heard, fault := { s.fault with line := s.fault.line.bump } }) ∧
    exec (.discardedPost bits) s = .next { s with line := heard } ∧
    (toUs → 2 ≤ s.line.replies.length →
      exec q s = .next { s with line := heard, fault := { s.fault with line := s.fault.line.bump } }) ∧
    (¬toUs → exec q s = .next { s with line := heard }) ∧
    ∃ t, exec .addressClash s = .next t ∧ t.fault.Holds .addressClash ∧
      t.fault = { s.fault with degraded := t.fault.degraded, fltAsserted := t.fault.fltAsserted } ∧
      (s.station.state = .solo ∨ s.station.state = .paired ∨ s.station.state = .latched →
        t.station = { s.station with state := .mute } ∧ t.line.waiting = 0 ∧ t.line.sending = none ∧
          t.line.offering = false ∧ t.line.stuck = s.line.stuck ∧ t.apply.link = 0 ∧ t.round.held = none ∧
          (s.station.state = .paired → t.round.inFlight = true)) ∧
      (s.station.state = .start → t.station = { s.station with mutePending := true } ∧ t.line.waiting = s.line.waiting) ∧
      (s.station.state = .shelf ∨ s.station.state = .mute →
        t = { s with fault := t.fault, line := heard }) ∧
      t = { s with
        fault := t.fault, line := t.line, station := t.station, apply := t.apply, round := t.round, hinge := t.hinge } ∧
      t.apply.proposal = s.apply.proposal ∧ t.apply.posted = s.apply.posted ∧ t.apply.draw = s.apply.draw ∧
      t.apply.charge = s.apply.charge ∧ t.round.seq = s.round.seq ∧ t.round.composed = s.round.composed

/-! ### The line and the station's own transmissions -/

/-- LINE_IDLE clears stuck, with offering yes again where the station state lets the controller offer; with a post to offer and
none in transmission the head of the queue, ALERT before STATE before REPLY, begins (R130, R138, R139). THE MODEL'S CHOICE
(notes/assumptions/7.md) is that the command begins the post, and the line's times. -/
def Obligations.LineIdleOffers : Prop :=
  ∀ s : State, s.receiving = true →
    let l := s.line
    let offering := if l.stuck then decide (s.station.state ≠ .mute) && decide (s.station.state ≠ .start) else l.offering
    let begins : Prop := offering = true ∧ l.sending = none ∧ l.waiting ≠ 0
    ∃ t, exec .lineIdle s = .next t ∧
      t = { s with line := { l with
        stuck := false, offering := offering, lowUs := 0, idleUs := t.line.idleUs, sending := t.line.sending } } ∧
      (begins → t.line.idleUs = 0 ∧ t.line.sending = some (
        if l.alerts ≠ [] then .alert else if l.state ≠ none then .state else .reply)) ∧
      (¬begins → t.line.idleUs = 240 ∧ t.line.sending = l.sending)

/-- OWN_STATE_SENT outside SHELF and MUTE: the post leaves the queue and its G, C and X are posted; the seq counter advances
modulo 256; the applied draw becomes the smallest of posted G, proposal G and a contract, the applied charge the smaller of
posted and proposal C, but in LATCHED as it stood, and the link is what a full judgement finds; a held composition joins
with the advanced seq (R17, R66, R67, R18). In SHELF, where the proposal is 0, the applied setpoints stay or become 0. A
final STATE held meanwhile joins in the same way; with none held the final STATE has been sent: the queue is emptied and the
stages are off, with the comparators disarmed, both switches open and the wake detector armed from V_in where an input is
fitted (R75, R142, R159, R111). -/
def Obligations.OwnStateSentApplies : Prop :=
  ∀ (q : Queued OwnState) (vIn : Nat) (s : State), s.receiving = true → s.station.state ≠ .mute →
    s.line.sending = some .state → s.line.state = some q → s.line.waiting ≤ 4 → s.ModesSound →
    ∃ t, exec (.ownStateSent vIn) s = .next t ∧
      let sent := q.post.contents.setting
      let switchesOff : Bool := decide (s.station.state = .shelf) && decide (s.round.held = none)
      t.round.posted = some sent ∧ t.apply.posted = some sent ∧ t.round.seq = (s.round.seq + 1) % 256 ∧
      t.line.sending = none ∧ t.round.held = none ∧ t.apply.rewritePending = false ∧
      (t.apply.draw : Int) = (match s.policy.contract with
        | none => max 0 (min sent.g s.apply.proposal.g)
        | some k => min (max 0 (min sent.g s.apply.proposal.g)) (k : Int)) ∧
      (s.station.state ≠ .latched → (t.apply.charge : Int) = max 0 (min sent.c s.apply.proposal.c)) ∧
      (s.station.state = .latched → t.apply.charge = s.apply.charge) ∧ t.apply.link = t.judgedLink ∧
      (s.station.state = .shelf →
        t.apply.proposal = ⟨0, 0, 0⟩ ∧ t.apply.draw = 0 ∧ t.apply.charge = 0 ∧ t.apply.link = 0) ∧
      (s.round.held = none → t.line.state = none) ∧
      (∀ h, s.round.held = some h → s.station.state ≠ .shelf ∨ h.final = true →
        t.line.state = some ⟨⟨{ h.contents with seq := (s.round.seq + 1) % 256 }, h.final⟩, 0⟩ ∧
          t.line.alerts = s.line.alerts ∧ t.line.replies = s.line.replies ∧ t.station = s.station ∧ t.fault = s.fault) ∧
      (switchesOff = false → s.round.held = none →
        t.line.alerts = s.line.alerts ∧ t.line.replies = s.line.replies ∧ t.station = s.station ∧ t.fault = s.fault) ∧
      (switchesOff = true →
        t.station = { s.station with off := true, shelfWait := none } ∧ t.line.waiting = 0 ∧ t.line.offering = false ∧
          t.fault = { s.fault with armed := false, dischargeClosed := false } ∧ t.port.switchClosed = false ∧
          t.port.wake =
            (if s.start.straps.inputFitted then (if vIn < 4300 then .waitingForHigh else .waitingForLow) else .off) ∧
          t.receiving = false) ∧
      t.apply.proposal = s.apply.proposal ∧ t.round.composed = s.round.composed ∧
      t.round.channels = s.round.channels ∧ t.gauge = s.gauge ∧ t.peers = s.peers ∧ t.policy = s.policy ∧
      t.accrued = s.accrued ∧ t.start = s.start ∧ t.pins = s.pins ∧ t.clock = s.clock ∧
      t.hinge.barring = s.hinge.barring ∧ t.port.port = s.port.port

/-- The apply unit hands the charger a changed charge, with its current limit at the held V_cell (R120, R60). A rise from 0
leads a HOLD_OFF charger that charging is permitted (R117) to PRECHARGE below 3000 mV and to BULK otherwise, with both timers
restarted exactly after a hold-off stay of 600,000 ms (R124); a fall to 0 leads PRECHARGE, BULK and TAPER to HOLD_OFF, with
the timers kept; any other change is stored, and one that is no change hands nothing. OWN_STATE_SENT hands the charge that it
applies in this way (R66). THE MODEL'S CHOICE (notes/assumptions/15.md) is the field that holds the ceiling condition. -/
def Obligations.ChargerHandOver : Prop :=
  (∀ (charge v : Nat) (s : State), s.round.channels.vCell.held = some (v : Int) →
    let t := s.setCharge charge
    let from0 := s.charger
    let permitted : Prop :=
      (from0.band = some .from0To10 ∨ from0.band = some .from10To45 ∨ from0.band = some .from45To55) ∧
        from0.ceilingHolds = true ∧ from0.timeoutHeld = false ∧
        (s.station.state = .solo ∨ s.station.state = .paired ∨ s.station.state = .mute)
    let rises : Prop := from0.setpoint = 0 ∧ 0 < charge ∧ from0.phase = .holdOff ∧ permitted
    let falls : Prop :=
      0 < from0.setpoint ∧ charge = 0 ∧ (from0.phase = .precharge ∨ from0.phase = .bulk ∨ from0.phase = .taper)
    (charge = s.apply.charge → t = s) ∧
    (charge ≠ s.apply.charge →
      t = { s with
        apply := { s.apply with charge := charge, chargeMa := charge * 1000 / v }
        charger := { t.charger with setpoint := charge, limitMa := charge * 1000 / v } } ∧
      (rises →
        t.charger = { from0 with
          setpoint := t.charger.setpoint, limitMa := t.charger.limitMa, termination := 0
          phase := if v < 3000 then .precharge else .bulk
          prechargeTimer := if from0.stay = 600000 then 0 else from0.prechargeTimer
          bulkTimer := if from0.stay = 600000 then 0 else from0.bulkTimer }) ∧
      (falls →
        t.charger = { from0 with
          setpoint := t.charger.setpoint, limitMa := t.charger.limitMa, termination := 0, phase := .holdOff, stay := 0 }) ∧
      (¬rises → ¬falls →
        t.charger = { from0 with setpoint := t.charger.setpoint, limitMa := t.charger.limitMa }))) ∧
  ∀ (q : Queued OwnState) (vIn : Nat) (s : State), s.receiving = true → s.station.state ≠ .mute →
    s.line.sending = some .state → s.line.state = some q →
    ∃ t, exec (.ownStateSent vIn) s = .next t ∧ t.charger = (s.setCharge t.apply.charge).charger

/-- ALERT_SENT and REPLY_SENT take the oldest post of their kind, which is the one in transmission, out of the queue; nothing
else changes (R134). THE MODEL'S CHOICE (notes/assumptions/7.md) is what a post sent leaves of the line's times. -/
def Obligations.AlertAndReplySent : Prop :=
  ∀ s : State,
    (s.line.sending = some .alert →
      exec .alertSent s = .next { s with
        line := { s.line with alerts := s.line.alerts.drop 1, sending := none, idleUs := 0, lowUs := 0 } }) ∧
    (s.line.sending = some .reply →
      exec .replySent s = .next { s with
        line := { s.line with replies := s.line.replies.drop 1, sending := none, idleUs := 0, lowUs := 0 } })

/-- LOST_ARBITRATION ends the transmission and keeps the bits read; the post stays with its aborts, and nothing is counted. An
own STATE is then replaced by a composition held meanwhile, keeping its seq with no aborts, or takes the current proposal
where a rewrite was pending (R132, R18, R65). -/
def Obligations.LostArbitrationKeepsPost : Prop :=
  ∀ (bits : List Bool) (k : PostKind) (s : State), s.line.sending = some k → s.receiving = true →
    s.station.state ≠ .mute → (k = .state → s.line.state ≠ none) →
    ∃ t, exec (.lostArbitration bits) s = .next t ∧ t.line.sending = none ∧ t.line.receiveBuffer = bits ∧
      t.line.alerts = s.line.alerts ∧ t.line.replies = s.line.replies ∧ t.fault = s.fault ∧
      (k ≠ .state → t.line.state = s.line.state ∧ t.round = s.round ∧ t.apply = s.apply) ∧
      (k = .state → t.round.held = none ∧ t.apply.rewritePending = false ∧
        ∀ q, s.line.state = some q →
          (∀ h, s.round.held = some h →
            t.line.state = some ⟨⟨{ h.contents with seq := q.post.contents.seq }, h.final⟩, 0⟩) ∧
          (s.round.held = none → s.apply.rewritePending = false → t.line.state = some q) ∧
          (s.round.held = none → s.apply.rewritePending = true →
            t.line.state = some ⟨⟨{ q.post.contents with
              setting := s.apply.proposal, code := s.apply.code }, q.post.final⟩, q.aborts⟩)) ∧
      t = { s with line := t.line, round := { s.round with held := t.round.held }
                   apply := { s.apply with rewritePending := t.apply.rewritePending } }

/-- ECHO_ABORT counts LINE_BIT and keeps the bits read. Below its fourth abort the post stays in its place with one abort more;
an own STATE then takes a pending rewrite, or gives way to a composition held meanwhile, which keeps its seq and starts at no
aborts (R133, R65, R18). At the fourth the post is removed, of a STATE the held composition takes the place, and TX_FAIL is
raised: once in the log it changes nothing, and otherwise it joins it and its ALERT the queue. Nothing else changes, but that
the final STATE removed in SHELF, or displaced by that ALERT, switches the stages off (R140); seq and posted proposal do not
move (R77, R142, R159). THE MODEL'S CHOICES within: the line's times (notes/assumptions/7.md), the held composition before
the kind (19.md), the switch-off last (18.md). -/
def Obligations.EchoAbortCounts : Prop :=
  ∀ (bits : List Bool) (vIn : Nat) (k : PostKind) (s : State), s.line.sending = some k → s.receiving = true →
    s.station.state ≠ .mute → s.line.waiting ≤ 4 →
    let held : Option OwnState := s.round.held
    let finalWaits : Prop := ∃ p : OwnState, p.final = true ∧ (held = some p ∨ held = none ∧ s.line.state.map Queued.post = some p)
    (s.station.state = .shelf → finalWaits) →
    ∃ t, exec (.echoAbort bits vIn) s = .next t ∧
      let counted : FaultUnit := { s.fault with line := s.fault.line.bump }
      let stopped : LineController := { s.line with sending := none, receiveBuffer := bits, idleUs := 0, lowUs := 0 }
      let rewritten (p : OwnState) : OwnState :=
        if s.apply.rewritePending then
          ⟨{ p.contents with setting := s.apply.proposal, code := s.apply.code }, p.final⟩
        else p
      let settled (line : LineController) : State :=
        { s with
          line := line, fault := counted, round := { s.round with held := none }
          apply := { s.apply with rewritePending := false } }
      let failed (u : State) : Prop :=
        t.fault.Holds .txFail ∧
        (∀ f, u.fault.degraded.first = some f → f.kind = .txFail ∨ .txFail ∈ u.fault.degraded.next → t = u) ∧
        (u.fault.degraded.first = none ∨
            (∃ f, u.fault.degraded.first = some f ∧ f.kind ≠ .txFail ∧ .txFail ∉ u.fault.degraded.next) →
          t = { u with line := t.line, fault := t.fault } ∧ t = u.logKind .txFail ∧
          (u.line.waiting < 4 →
            t.line = { u.line with alerts := u.line.alerts ++
              [⟨⟨.txFail, decide (u.fault.degraded.first = none), s.station.state, s.round.stamp, s.shownVCell,
                s.shownTCell⟩, 0⟩] } ∧
            t.fault.line = s.fault.line.bump))
      (∀ a rest, k = .alert → s.line.alerts = a :: rest →
        (a.aborts < 3 →
          t = { s with fault := counted, line := { stopped with alerts := { a with aborts := a.aborts + 1 } :: rest } }) ∧
        (3 ≤ a.aborts → failed { s with fault := counted, line := { stopped with alerts := rest } })) ∧
      (∀ a rest, k = .reply → s.line.replies = a :: rest →
        (a.aborts < 3 →
          t = { s with fault := counted, line := { stopped with replies := { a with aborts := a.aborts + 1 } :: rest } }) ∧
        (3 ≤ a.aborts → failed { s with fault := counted, line := { stopped with replies := rest } })) ∧
      (∀ q, k = .state → s.line.state = some q → q.aborts < 3 →
        (held = none → t = settled { stopped with state := some ⟨rewritten q.post, q.aborts + 1⟩ }) ∧
        (∀ h, held = some h →
          t = settled { stopped with state := some ⟨⟨{ h.contents with seq := q.post.contents.seq }, h.final⟩, 0⟩ })) ∧
      (∀ q, k = .state → s.line.state = some q → 3 ≤ q.aborts →
        (held = none → s.station.state ≠ .shelf → failed (settled { stopped with state := none })) ∧
        (held = none → s.station.state = .shelf →
          t.fault.Holds .txFail ∧ t.fault.line = s.fault.line.bump ∧ t.fault.armed = false ∧
            t.fault.dischargeClosed = false ∧ t.station = { s.station with off := true, shelfWait := none } ∧
            t.line.waiting = 0 ∧ t.line.sending = none ∧ t.line.offering = false ∧ t.port.switchClosed = false ∧
            t.round.seq = s.round.seq ∧ t.round.posted = s.round.posted ∧
            t.apply = { s.apply with rewritePending := false }) ∧
        (∀ h, held = some h → s.station.state ≠ .shelf ∨ s.line.waiting < 4 →
          failed (settled { stopped with state := some ⟨h, 0⟩ })) ∧
        (∀ h, held = some h → s.station.state = .shelf → s.line.waiting = 4 →
          t.fault.Holds .txFail ∧ t.round.held = none ∧ t.round.seq = s.round.seq ∧ t.round.posted = s.round.posted ∧
            (s.line.replies ≠ [] → t.line.state = some ⟨h, 0⟩ ∧ t.station = s.station) ∧
            (s.line.replies = [] → s.fault.Holds .txFail ∨
              t.station = { s.station with off := true, shelfWait := none } ∧ t.line.waiting = 0)))

/-- LINE_STUCK sets stuck and stops offering, ends a transmission, empties the receive buffer and logs LINE_STUCK; it sets stuck
hold in START, SOLO, PAIRED and LATCHED, takes PAIRED to SOLO with the link at 0, and ends a shelving station's wait (R138,
R156, R73, R142). LINE counts LINE_BIT for a transmission abandoned and LINE_CRC for bits received. The kinds logged are
LINE_STUCK and then, where the post abandoned is removed at its fourth abort, TX_FAIL (R133, R167). THE MODEL'S CHOICES
within: a LINE_STUCK that comes while the line is already stuck takes the same steps, and what is counted
(notes/assumptions/20.md); the order of the two kinds (36.md). -/
def Obligations.LineStuckStops : Prop :=
  ∀ (heard : List Bool) (vIn : Nat) (s : State), s.receiving = true →
    ∃ t, exec (.lineStuck heard vIn) s = .next t ∧ t.line.stuck = true ∧ t.line.offering = false ∧
      t.line.sending = none ∧ t.line.receiveBuffer = [] ∧ t.fault.Holds .lineStuck ∧
      let removed : Prop :=
        (s.line.sending = some .alert ∧ ∃ q rest, s.line.alerts = q :: rest ∧ 3 ≤ q.aborts) ∨
        (s.line.sending = some .state ∧ ∃ q, s.line.state = some q ∧ 3 ≤ q.aborts) ∨
        (s.line.sending = some .reply ∧ ∃ q rest, s.line.replies = q :: rest ∧ 3 ≤ q.aborts)
      (∀ j, t.fault.Holds j ↔ s.fault.Holds j ∨ j = .lineStuck ∨ (j = .txFail ∧ removed)) ∧
      (s.fault.degraded.first = none → ∃ f, t.fault.degraded.first = some f ∧ f.kind = .lineStuck) ∧
      (s.line.waiting < 3 →
        let aborted : Counter := if s.line.sending = none then s.fault.line else s.fault.line.bump
        t.fault.line = if s.line.receiveBuffer ++ heard = [] then aborted else aborted.bump) ∧
      t.station.state = (if s.station.state = .paired then .solo else s.station.state) ∧
      (s.station.state ≠ .shelf → s.station.state ≠ .mute → t.station.stuckHold = true) ∧
      (s.station.state = .mute → t.station = s.station) ∧ (s.station.state = .paired → t.apply.link = 0) ∧
      (s.station.state = .shelf → t.station.off = true ∧ t.line.waiting = 0) ∧
      t.round.seq = s.round.seq ∧ t.round.posted = s.round.posted ∧ t.apply.posted = s.apply.posted ∧
      t.apply.proposal = s.apply.proposal ∧ t.apply.draw = s.apply.draw ∧ t.apply.charge = s.apply.charge ∧
      t.gauge = s.gauge ∧ t.peers = s.peers ∧ t.policy = s.policy ∧ t.accrued = s.accrued ∧ t.start = s.start ∧
      t.charger = s.charger ∧ t.pins = s.pins ∧ t.clock = s.clock ∧ t.round.channels = s.round.channels ∧
      t.round.composed = s.round.composed

/-! ### SHELF -/

/-- SHELF_WAIT_EXPIRY removes the final STATE as failed, leaving the posted proposal, and switches the stages off; and
WAKE_WAITING_FOR_HIGH moves the wake detector from waiting for low to waiting for high below 3800 mV (R159, R75, R111). THE
MODEL'S CHOICE (notes/assumptions/5.md) is that the rest of the wait passes with its expiry. -/
def Obligations.ShelfWaitAndWakeDetector : Prop :=
  ∀ (vIn : Nat) (s : State),
    (∀ w, s.station.state = .shelf → s.station.off = false → s.station.shelfWait = some w →
      (∀ q, s.line.state = some q → q.post.final = true) →
      ∃ t, exec (.shelfWaitExpiry vIn) s = .next t ∧ t.station = { s.station with off := true, shelfWait := none } ∧
        t.line.waiting = 0 ∧ t.line.sending = none ∧ t.line.offering = false ∧ t.fault = { s.fault with
          dischargeClosed := false, armed := false } ∧ t.port.switchClosed = false ∧
        t.apply = { s.apply with rewritePending := false } ∧ t.round.seq = s.round.seq ∧
        t.round.posted = s.round.posted ∧ t.clock = s.clock + (1000 - w) ∧ t.gauge = s.gauge ∧ t.peers = s.peers ∧
        t.policy = s.policy ∧ t.hinge.link = s.hinge.link ∧ t.hinge.barring = s.hinge.barring) ∧
    (s.port.wake = .waitingForLow → vIn < 3800 →
      exec (.wakeWaitingForHigh vIn) s = .next { s with port := { s.port with wake := .waitingForHigh } })

/-! ### The input port between sweeps -/

/-- A probe step that ends without a trip has held, and the next begins 100 mA higher, or the probe ends at 3000 mA; a step
whose V_in falls below floor(attach voltage × 92 / 100) fails, and the probed limit is the last step held, or 500 mA (R104).
THE MODEL'S CHOICE (notes/assumptions/5.md) is that the rest of the step passes with its end. -/
def Obligations.ProbeSteps : Prop :=
  ∀ (n vIn v : Nat) (s : State), s.port.port = .probing → s.station.off = false → s.port.step = some n →
    s.port.attachMv = some v →
    (∃ t, exec .probeStepEnd s = .next t ∧ t.clock = s.clock + s.port.stepLeft ∧
      t.port = (if n < 3000 then { s.port with lastHeld := some n, step := some (n + 100), stepLeft := 20 }
        else { s.port with port := .holding, step := none, stepLeft := 0, lastHeld := none, probed := some 3000 }) ∧
      t.round.channels = s.round.channels ∧ t.round.inFlight = s.round.inFlight ∧ t.round.stamp = s.round.stamp ∧
      t.apply = s.apply ∧ t.gauge = s.gauge ∧ t.line = s.line ∧ t.fault = s.fault ∧ t.peers = s.peers ∧
      t.policy = s.policy ∧ t.accrued = s.accrued ∧ t.pins = s.pins ∧ t.hinge.link = s.hinge.link ∧
      t.charger.phase = s.charger.phase ∧ t.station.state = s.station.state) ∧
    (vIn < v * 92 / 100 →
      exec (.probeComparatorTrip vIn) s = .next { s with
        port := { s.port with
          port := .holding, step := none, stepLeft := 0, lastHeld := none, probed := some (s.port.lastHeld.getD 500) } })

/-- UNDERVOLTAGE_TRIP detaches an attached port: the switch opens, a probe is aborted, probed limit and attach voltage are gone,
and an early sweep is requested; the applied draw is left. INPUT_OVERVOLT above 14000 mV, outside SHELF, blocks a DETACHED,
PROBING or HOLDING port with its switch open and logs INPUT_OVERVOLT; from PROBING and HOLDING it requests an early sweep,
from DETACHED none (R101, R102, R3). -/
def Obligations.InputComparatorsOpenPort : Prop :=
  ∀ (vIn : Nat) (s : State),
    (s.port.port = .probing ∨ s.port.port = .holding → s.station.off = false → vIn < 3500 →
      ∃ t, exec (.undervoltageTrip vIn) s = .next t ∧
        t.port = { s.port with
          port := .detached, switchClosed := false, attachCount := 0, attachMv := none, step := none, stepLeft := 0
          lastHeld := none, probed := none } ∧
        (s.station.state ≠ .start → s.station.state ≠ .shelf → t.round.inFlight = true) ∧
        t = { s with
          port := t.port
          round := { s.round with
            timer := t.round.timer, inFlight := t.round.inFlight, earlyRequest := t.round.earlyRequest }
          hinge := { s.hinge with sinceEntry := t.hinge.sinceEntry } }) ∧
    (s.receiving = true → s.station.state ≠ .shelf → 14000 < vIn →
      s.port.port = .detached ∨ s.port.port = .probing ∨ s.port.port = .holding →
      ∃ t, exec (.inputOvervolt vIn) s = .next t ∧
        t.port = { s.port with
          port := .blocked, switchClosed := false, attachCount := 0, attachMv := none, step := none, stepLeft := 0
          lastHeld := none, probed := none } ∧
        t.fault.Holds .inputOvervolt ∧ t.fault.halting = s.fault.halting ∧
        (s.port.port = .detached → t.round = s.round ∧ t.hinge = s.hinge) ∧
        (s.port.port ≠ .detached → s.station.state ≠ .start → t.round.inFlight = true) ∧
        t = { s with
          port := t.port, fault := t.fault, line := t.line
          round := { s.round with
            timer := t.round.timer, inFlight := t.round.inFlight, earlyRequest := t.round.earlyRequest }
          hinge := { s.hinge with sinceEntry := t.hinge.sinceEntry } })

/-! ### The hinge link stage between sweeps -/

/-- HINGE_TRIP above the threshold, outside SHELF: the stage is BARRED and the applied link 0; the stamp joins the history of at
most three; three stamps within 64 rounds, modulo 16777216, escalate to a barring until release with HINGE_REPEAT logged,
otherwise the barring is 8, or stays until release; HINGE_TRIP is logged (R88, R89, R72). -/
def Obligations.HingeTripBars : Prop :=
  ∀ (iHinge : Int) (vIn : Nat) (s : State), s.pins.resetNHigh = true → s.station.off = false →
    s.station.state ≠ .shelf → s.hinge.threshold < iHinge.natAbs → s.hinge.history.length ≤ 3 →
    s.round.stamp ∉ s.hinge.history →
    ∃ t, exec (.hingeTrip iHinge vIn) s = .next t ∧ t.hinge.link = .barred ∧ t.apply.link = 0 ∧
      t.hinge.history = (s.hinge.history ++ [s.round.stamp]).drop (s.hinge.history.length - 2) ∧
      t.fault.Holds .hingeTrip ∧
      let escalated : Prop := ∃ a b c, t.hinge.history = [a, b, c] ∧ (c + 16777216 - a) % 16777216 ≤ 64
      (escalated → t.hinge.barring = .untilRelease ∧ t.fault.Holds .hingeRepeat) ∧
      (¬escalated → t.hinge.barring = if s.hinge.barring = .untilRelease then .untilRelease else .rounds 8) ∧
      t = { s with
        hinge := t.hinge, fault := t.fault, line := t.line
        apply := { s.apply with link := 0, linkMa := t.apply.linkMa } }

/-- The threshold is 120 % of the limit with 100 mA added. A raised limit reaches it at once and a lowered one 2 ms later, which
is THRESHOLD_LOWERING (R87). THE MODEL'S CHOICES within: a change during a lowering (notes/assumptions/14.md), and the time
left that passes (5.md). -/
def Obligations.TripThreshold : Prop :=
  ∀ (limit : Nat) (h : HingeStage) (left : Nat) (s : State),
    (h.limit < limit →
      (h.takeLimit limit).threshold = limit + limit / 5 + 100 ∧ (h.takeLimit limit).lowering = none) ∧
    (limit < h.limit →
      (h.takeLimit limit).threshold = h.threshold ∧ (h.takeLimit limit).lowering = some 2) ∧
    (h.takeLimit limit).limit = limit ∧
    (s.hinge.lowering = some left →
      ∃ t, exec .thresholdLowering s = .next t ∧
        t.hinge = { s.hinge with threshold := s.hinge.limit + s.hinge.limit / 5 + 100, lowering := none } ∧
        t.clock = s.clock + left ∧ t.apply = s.apply ∧ t.gauge = s.gauge ∧ t.line = s.line ∧ t.fault = s.fault ∧
        t.peers = s.peers ∧ t.policy = s.policy ∧ t.accrued = s.accrued ∧ t.pins = s.pins ∧
        t.round.channels = s.round.channels ∧ t.station.state = s.station.state)

/-! ### The protection comparators -/

/-- A comparator that trips, CELL_OVERVOLT above the charge voltage plus 100 mV or CELL_OVERCURRENT above 1.5 times the max
discharge, opens the discharge switch and is in the log; SOLO and PAIRED are LATCHED, START is marked latch pending, and the
other states stay; the charger is in HOLD_OFF and the applied charge 0 wherever the station may charge (R165, R171). THE
MODEL'S CHOICE (notes/assumptions/22.md) is that in MUTE the charger leaves every phase for HOLD_OFF, FULL included. -/
def Obligations.CellComparatorsTrip : Prop :=
  ∀ (vCell : Nat) (iCell : Int) (vIn : Nat) (volts : Bool) (s : State), s.fault.armed = true → s.station.state ≠ .shelf →
    let c : Instr := if volts then .cellOvervolt vCell iCell vIn else .cellOvercurrent vCell iCell vIn
    let k : Kind := if volts then .cellOvervolt else .cellOvercurrent
    (volts = true → s.profile.chargeMv + 100 < vCell ∧ s.fault.overvoltAsserted = false) →
    (volts = false → (3 * s.profile.maxDischargeMa / 2 : Int) < -iCell ∧ s.fault.overcurrentAsserted = false) →
    ∃ t, exec c s = .next t ∧ t.fault.Holds k ∧ t.fault.dischargeClosed = false ∧
      (volts = true → t.fault.overvoltAsserted = true) ∧ (volts = false → t.fault.overcurrentAsserted = true) ∧
      t.fault.armed = true ∧
      t.station.state = (if s.station.state = .solo ∨ s.station.state = .paired then .latched else s.station.state) ∧
      (s.station.state = .start → t.station.latchPending = true) ∧
      (s.station.state = .solo ∨ s.station.state = .paired →
        t.apply.charge = 0 ∧ t.apply.link = 0 ∧ t.charger.phase = .holdOff ∧ t.port.port ≠ .probing ∧
          t.round.inFlight = true) ∧
      (s.station.state = .mute → t.apply.charge = 0 ∧ t.charger.phase = .holdOff) ∧
      t.apply.draw = s.apply.draw ∧ t.apply.posted = s.apply.posted ∧ t.apply.proposal = s.apply.proposal ∧
      t.gauge = s.gauge ∧ t.peers = s.peers ∧ t.policy = s.policy ∧ t.accrued = s.accrued ∧ t.start = s.start ∧
      t.pins = s.pins ∧ t.clock = s.clock ∧ t.charger.prechargeTimer = s.charger.prechargeTimer ∧
      t.charger.bulkTimer = s.charger.bulkTimer

/-- COMPARATOR_NO_LONGER_ASSERTED clears exactly the asserted marks whose quantity no longer stands above its threshold, and
changes nothing else (R165). -/
def Obligations.ComparatorsRearm : Prop :=
  ∀ (vCell : Nat) (iCell : Int) (s : State),
    exec (.comparatorNoLongerAsserted vCell iCell) s = .next { s with
      fault := { s.fault with
        overvoltAsserted := s.fault.overvoltAsserted && decide (s.profile.chargeMv + 100 < vCell)
        overcurrentAsserted :=
          s.fault.overcurrentAsserted && decide ((3 * s.profile.maxDischargeMa / 2 : Int) < -iCell) } }

/-! ### Shared operations -/

/-- The log takes a kind as the table of R167 gives: an absent first record becomes one with the snapshot of the moment; a kind
already held changes nothing, in the log or at the pin; another joins the next set. A change asserts FLT for a HALTING kind
and, with the strap's pin field, for a DEGRADED one, and hands an ALERT, but for ADDRESS_CLASH (R167, R169, R170). -/
def Obligations.LogTakesKind : Prop :=
  ∀ (k : Kind) (s : State),
    let before := s.fault.log k.severity
    let after := (s.logKind k).fault.log k.severity
    (before.first = none →
      after.next = before.next ∧ after.first = some ⟨k, s.round.stamp, s.station.state, s.charger.phase, s.port.port,
        s.hinge.link, s.shownVCell, s.shownTCell, s.shownTHinge, s.apply.drawMa, s.apply.chargeMa, s.apply.linkMa,
        directionOf s.apply.link⟩) ∧
    (∀ r, before.first = some r → r.kind = k ∨ k ∈ before.next → s.logKind k = s) ∧
    (∀ r, before.first = some r → r.kind ≠ k → k ∉ before.next →
      after.first = some r ∧ ∀ j, j ∈ after.next ↔ j = k ∨ j ∈ before.next) ∧
    (s.logKind k ≠ s →
      (s.logKind k).fault.fltAsserted =
        (s.fault.fltAsserted || decide (k.number ≤ 6) || s.start.straps.degradedPin) ∧
      (k ≠ .addressClash → s.queueOpen = true → s.line.waiting < 4 →
        (s.logKind k).line.alerts = s.line.alerts ++ [⟨⟨k, decide (before.first = none), s.station.state, s.round.stamp,
          s.shownVCell, s.shownTCell⟩, 0⟩] ∧ (s.logKind k).fault.line = s.fault.line)) ∧
    (∀ j : Kind, j.severity ≠ k.severity → (s.logKind k).fault.log j.severity = s.fault.log j.severity)

/-- The queue takes an ALERT: with fewer than four posts it joins at the end of the ALERT posts; with four, the newest REPLY not
in transmission gives way, or with none the STATE not in transmission, or with none the new post; each of these drops is
reported (R140). -/
def Obligations.QueueTakesAlert : Prop :=
  ∀ (a : AlertContents) (l : LineController), l.Sound →
    let r := l.takeAlert a
    let joined := l.alerts ++ [⟨a, 0⟩]
    let freeReply : Prop := (if l.sending = some .reply then 1 else 0) < l.replies.length
    (l.waiting < 4 → r = ({ l with alerts := joined }, false)) ∧
    (l.waiting = 4 → freeReply → r = ({ l with alerts := joined, replies := l.replies.dropLast }, true)) ∧
    (l.waiting = 4 → ¬freeReply → l.state ≠ none → l.sending ≠ some .state →
      r = ({ l with alerts := joined, state := none }, true)) ∧
    (l.waiting = 4 → ¬freeReply → l.state = none ∨ l.sending = some .state → r = (l, true)) ∧
    r.1.Sound

/-- A counter increases by 1 below 127; an increase at 127 leaves it and sets the overflow flag (R173). -/
def Obligations.CounterSaturates : Prop :=
  ∀ (k : Corrected) (s : State),
    let bumped (before after : Counter) : Prop :=
      if before.value < 127 then after = ⟨before.value + 1, before.overflow⟩ else after = ⟨before.value, true⟩
    let f := s.fault
    let g := (s.count k).fault
    (k ∈ [.lineCrc, .lineBit, .lineGap, .queryOverrun, .txDrop] → bumped f.line g.line ∧ g = { f with line := g.line }) ∧
    (k = .linkUnanswered → bumped f.link g.link ∧ g = { f with link := g.link }) ∧
    (k = .allotUnordered → bumped f.allot g.allot ∧ g = { f with allot := g.allot }) ∧
    (k = .learnReject ∨ k = .gaugeClip → bumped f.gauge g.gauge ∧ g = { f with gauge := g.gauge }) ∧
    s.count k = { s with fault := g }

/-- The comparison of the link at each replacement of the proposal, as the table of R64 gives it: a replacement makes the new
values the proposal, and the applied link follows the table, lowered or opened and never raised or reversed. -/
def Obligations.LinkCompared : Prop :=
  ∀ (r : Setting) (code : Nat) (s : State),
    let link := s.apply.link
    let after := (s.replaceProposal r code).apply
    after.proposal = r ∧
    (link = 0 → after.link = 0) ∧
    (0 < link → 0 < r.x → r.x < link → after.link = r.x) ∧
    (0 < link → link ≤ r.x → after.link = link) ∧
    (0 < link → r.x ≤ 0 → after.link = 0) ∧
    (link < 0 → r.x < 0 → link < r.x → after.link = r.x) ∧
    (link < 0 → r.x ≤ link → after.link = link) ∧
    (link < 0 → 0 ≤ r.x → after.link = 0)

/-- The current limits of R60 never let the stages take more power than is applied, at the held voltages, and the draw limit
never exceeds 3000 mA; a suspect V_in or V_hinge, or one below 1000 mV, gives 0. -/
def Obligations.LimitsWithinPower : Prop :=
  ∀ (s : State) (g c : Nat) (x : Int),
    s.drawLimitOf g ≤ 3000 ∧
    (∀ v : Nat, s.round.channels.vIn = ⟨true, some (v : Int)⟩ → 1000 ≤ v →
      s.drawLimitOf g * v ≤ g * 1000 ∧ (s.drawLimitOf g < 3000 → g * 1000 < (s.drawLimitOf g + 1) * v)) ∧
    (∀ v : Nat, s.round.channels.vCell.held = some (v : Int) → 2000 ≤ v →
      s.chargeLimitOf c * v ≤ c * 1000 ∧ c * 1000 < (s.chargeLimitOf c + 1) * v) ∧
    (∀ v : Nat, s.round.channels.vHinge = ⟨true, some (v : Int)⟩ → 1000 ≤ v →
      s.linkLimitOf x * v ≤ x.natAbs * 1000 ∧ x.natAbs * 1000 < (s.linkLimitOf x + 1) * v) ∧
    (s.round.channels.vIn.plausible = false ∨ s.round.channels.vIn.value < 1000 → s.drawLimitOf g = 0) ∧
    (s.round.channels.vHinge.plausible = false ∨ s.round.channels.vHinge.value < 1000 → s.linkLimitOf x = 0)

/-- The fields of an addressed LIMIT post are stored as the table of R177 gives, for every value of every field, whatever its
order; the reserved byte is not read, and with the order NONE nothing is reported. -/
def Obligations.LimitFieldsStored : Prop :=
  ∀ (p : LimitPost) (vIn : Nat) (s : State), s.receiving = true →
    p.target.toNat = s.start.straps.address.toNat ∨ p.target = 7 →
    ∃ t, exec (.limit p vIn) s = .next t ∧
      (p.contract.toNat ≤ 30000 → t.policy.contract = some p.contract.toNat) ∧
      (30001 ≤ p.contract.toNat → p.contract.toNat ≤ 65534 → t.policy.contract = some 30000) ∧
      (p.contract = 0xFFFF → t.policy.contract = none) ∧
      (p.ceiling.toNat < 500 → t.policy.ceiling = 500) ∧
      (500 ≤ p.ceiling.toNat → p.ceiling.toNat ≤ 1000 → t.policy.ceiling = p.ceiling.toNat) ∧
      (1000 < p.ceiling.toNat → t.policy.ceiling = 1000) ∧
      (p.balance = 0 → t.policy.balance = false) ∧ (1 ≤ p.balance.toNat → t.policy.balance = true) ∧
      (p.order = 0 ∨ 3 ≤ p.order.toNat → orderStored p.order = .none ∧ t.fault = s.fault) ∧
      (p.order = 1 → orderStored p.order = .shelf) ∧ (p.order = 2 → orderStored p.order = .release) ∧
      ∀ body : List Byte, body.length = 8 → ∀ reserved₁ reserved₂ check₁ check₂ : Byte,
        decodeLimit (body ++ [reserved₁, check₁]) = decodeLimit (body ++ [reserved₂, check₂])

/-! ### The allotment -/

/-- Every allotment result lies within the bounds of R54, with the figures as used after stage 0, in the paired and in the solo
form: the two links are opposite and within both hinge figures, each cell power within Dmax and Cmax, each draw within S.
And it balances each station exactly: draw plus reported shortfall is load plus cell power plus link power, with the load as
used (R52, R53). -/
def Obligations.AllotmentBounds : Prop :=
  ∀ a b : FigureSet, a.figures.q ≤ 1000 → b.figures.q ≤ 1000 →
    let within (u : Used) (r : Allotted) : Prop :=
      -u.dmax ≤ r.setting.c ∧ r.setting.c ≤ u.cmax ∧ 0 ≤ r.setting.g ∧ r.setting.g ≤ u.s ∧
        r.setting.g + r.shortfall = u.l + r.setting.c + r.setting.x ∧ 0 ≤ r.shortfall
    let p := pairedRun a b
    p.first.setting.x = -p.second.setting.x ∧ |p.first.setting.x| ≤ min a.used.h b.used.h ∧ within a.used p.first ∧
      within b.used p.second ∧ within a.used (soloRun a).1 ∧ (soloRun a).1.setting.x = 0

/-- Two stations that run the allotment on the same two figure sets, each with its own as its own, reach one result: opposite
links, equal outcome codes, and each the part that the other computes for it (R40). -/
def Obligations.StationsAgree : Prop :=
  ∀ a b : FigureSet, a.address < b.address →
    runWith a b = ((pairedRun a b).first, (pairedRun a b).flags) ∧
    runWith b a = ((pairedRun a b).second, (pairedRun a b).flags) ∧
    (runWith a b).1.setting.x = -(runWith b a).1.setting.x ∧ (runWith a b).2.code = (runWith b a).2.code

/-! ### Posts -/

/-- A receive buffer that holds a LIMIT, a QUERY or a STATE post, sent bit by bit as R143 and R145 lay it out with the CRC of
R136, is heard as the command it stands for, with every field at every value. -/
def Obligations.PostsRoundTrip : Prop :=
  ∀ (own source : BitVec 3) (vIn : Nat) (p : LimitPost) (q : StatePost) (target item argument : Byte),
    (own ≠ 7 →
      commandOf own vIn (bitsOfBytes (encodeLimit p)) = .limit p vIn ∧
      commandOf own vIn (bitsOfBytes (encodeQuery target item argument)) = queryCommand target item argument) ∧
    (source ≠ own → source ≠ 7 →
      commandOf own vIn (bitsOfBytes (encodeState source q)) = .stateArrival source q vIn)

/-! ### What every step keeps -/

/-- Every step keeps the counters from 0 to 127, with an overflow flag only at 127 (R173), and both classes of the log in form:
each kind once and in its own class, the next set without the first record's kind, and empty while there is no first record
(R167). -/
def Obligations.StepKeepsFaultUnit : Prop :=
  ∀ s t : State, step s = .next t →
    (s.fault.CountersSound → t.fault.CountersSound) ∧ (s.fault.LogSound → t.fault.LogSound)

/-- Every step keeps the transmit queue at four posts or fewer, of which two REPLY or fewer, each with three echo aborts or
fewer, the post in transmission among them, and a stuck line without an offer (R128, R138, R139). -/
def Obligations.StepKeepsQueue : Prop :=
  ∀ s t : State, s.line.Sound → step s = .next t → t.line.Sound

/-- Every step keeps START, SHELF and MUTE at rest: the round timer stopped and no sweep in flight in START and SHELF, the
proposal 0 in SHELF, nothing offered in START and MUTE, the stages off only in SHELF (R1, R75, R128, R148, R159). And then the
input port stays in form: the probe step exactly while PROBING, the attach voltage and a closed switch exactly while attached
with the stages on, the probed limit only in HOLDING, all in their ranges (R97, R98, R99, R111). -/
def Obligations.StepKeepsModesAndPort : Prop :=
  ∀ s t : State, s.ModesSound → step s = .next t → t.ModesSound ∧ (s.PortSound → t.PortSound)

/-- Every step keeps the hinge link stage in form: BARRED exactly during a barring, with the applied link 0, and otherwise in
the link state that the applied link gives (R80, R82). -/
def Obligations.StepKeepsHinge : Prop :=
  ∀ s t : State, s.HingeSound → step s = .next t → t.HingeSound

/-- Every step keeps the bound of R67 on the applied link: it lies from 0 to what a full link judgement would find, so it is
above 0 only while PAIRED with posted X of opposite signs, and never above any of the three magnitudes. And it keeps the
bound of R70 on the applied draw, and the like bound on the applied charge, which is 0 in LATCHED (R66, R74). -/
def Obligations.StepKeepsSetpointBounds : Prop :=
  ∀ s t : State, step s = .next t →
    (s.LinkBounded → t.LinkBounded) ∧ (s.DrawBounded → t.DrawBounded) ∧ (s.ChargeBounded → t.ChargeBounded)

/-- Every step keeps the charger in HOLD_OFF in START, LATCHED and SHELF and under a held timeout, in HOLD_OFF or FULL under a
band that permits no charge, and the termination count below 2; and the charger holds the applied charge and its limit
(R114, R117, R120, R121, R126). -/
def Obligations.StepKeepsCharger : Prop :=
  ∀ s t : State, s.ChargerSound → step s = .next t → t.ChargerSound

/-- Every step keeps the gauge and, with what START leaves at rest, the round unit and the peer table in the ranges of R25, R1,
R146 and R153: so q is at most 1000, the round timer at most the strapped period, the last unsuspect L at most 30000, every
held reading within its window, and no entry is the own address's or a second one of its address. -/
def Obligations.StepKeepsGaugeRoundPeers : Prop :=
  ∀ s t : State, step s = .next t →
    (s.gauge.Sound → t.gauge.Sound ∧ t.gauge.q ≤ 1000) ∧ (s.ModesSound → s.RoundSound → t.RoundSound) ∧
      (s.ModesSound → s.PeersSound → t.PeersSound)
end

