-- ==== Sys2Proof/Laws/State.lean ====
section
/-!
SUPPORT. One lemma for each field under each update of one field of `State`, true by unfolding, so that no proof unfolds
a record update.
-/

namespace Sys2Proof.Machine.State

@[simp] theorem withPending_pending (s : State) (v : List Instr) : (s.withPending v).pending = v := rfl
@[simp] theorem withPending_clock (s : State) (v : List Instr) : (s.withPending v).clock = s.clock := rfl
@[simp] theorem withPending_round (s : State) (v : List Instr) : (s.withPending v).round = s.round := rfl
@[simp] theorem withPending_gauge (s : State) (v : List Instr) : (s.withPending v).gauge = s.gauge := rfl
@[simp] theorem withPending_accrued (s : State) (v : List Instr) : (s.withPending v).accrued = s.accrued := rfl
@[simp] theorem withPending_apply (s : State) (v : List Instr) : (s.withPending v).apply = s.apply := rfl
@[simp] theorem withPending_hinge (s : State) (v : List Instr) : (s.withPending v).hinge = s.hinge := rfl
@[simp] theorem withPending_port (s : State) (v : List Instr) : (s.withPending v).port = s.port := rfl
@[simp] theorem withPending_charger (s : State) (v : List Instr) : (s.withPending v).charger = s.charger := rfl
@[simp] theorem withPending_line (s : State) (v : List Instr) : (s.withPending v).line = s.line := rfl
@[simp] theorem withPending_peers (s : State) (v : List Instr) : (s.withPending v).peers = s.peers := rfl
@[simp] theorem withPending_station (s : State) (v : List Instr) : (s.withPending v).station = s.station := rfl
@[simp] theorem withPending_start (s : State) (v : List Instr) : (s.withPending v).start = s.start := rfl
@[simp] theorem withPending_fault (s : State) (v : List Instr) : (s.withPending v).fault = s.fault := rfl
@[simp] theorem withPending_policy (s : State) (v : List Instr) : (s.withPending v).policy = s.policy := rfl
@[simp] theorem withPending_pins (s : State) (v : List Instr) : (s.withPending v).pins = s.pins := rfl

@[simp] theorem withClock_pending (s : State) (v : Nat) : (s.withClock v).pending = s.pending := rfl
@[simp] theorem withClock_clock (s : State) (v : Nat) : (s.withClock v).clock = v := rfl
@[simp] theorem withClock_round (s : State) (v : Nat) : (s.withClock v).round = s.round := rfl
@[simp] theorem withClock_gauge (s : State) (v : Nat) : (s.withClock v).gauge = s.gauge := rfl
@[simp] theorem withClock_accrued (s : State) (v : Nat) : (s.withClock v).accrued = s.accrued := rfl
@[simp] theorem withClock_apply (s : State) (v : Nat) : (s.withClock v).apply = s.apply := rfl
@[simp] theorem withClock_hinge (s : State) (v : Nat) : (s.withClock v).hinge = s.hinge := rfl
@[simp] theorem withClock_port (s : State) (v : Nat) : (s.withClock v).port = s.port := rfl
@[simp] theorem withClock_charger (s : State) (v : Nat) : (s.withClock v).charger = s.charger := rfl
@[simp] theorem withClock_line (s : State) (v : Nat) : (s.withClock v).line = s.line := rfl
@[simp] theorem withClock_peers (s : State) (v : Nat) : (s.withClock v).peers = s.peers := rfl
@[simp] theorem withClock_station (s : State) (v : Nat) : (s.withClock v).station = s.station := rfl
@[simp] theorem withClock_start (s : State) (v : Nat) : (s.withClock v).start = s.start := rfl
@[simp] theorem withClock_fault (s : State) (v : Nat) : (s.withClock v).fault = s.fault := rfl
@[simp] theorem withClock_policy (s : State) (v : Nat) : (s.withClock v).policy = s.policy := rfl
@[simp] theorem withClock_pins (s : State) (v : Nat) : (s.withClock v).pins = s.pins := rfl

@[simp] theorem withRound_pending (s : State) (v : RoundUnit) : (s.withRound v).pending = s.pending := rfl
@[simp] theorem withRound_clock (s : State) (v : RoundUnit) : (s.withRound v).clock = s.clock := rfl
@[simp] theorem withRound_round (s : State) (v : RoundUnit) : (s.withRound v).round = v := rfl
@[simp] theorem withRound_gauge (s : State) (v : RoundUnit) : (s.withRound v).gauge = s.gauge := rfl
@[simp] theorem withRound_accrued (s : State) (v : RoundUnit) : (s.withRound v).accrued = s.accrued := rfl
@[simp] theorem withRound_apply (s : State) (v : RoundUnit) : (s.withRound v).apply = s.apply := rfl
@[simp] theorem withRound_hinge (s : State) (v : RoundUnit) : (s.withRound v).hinge = s.hinge := rfl
@[simp] theorem withRound_port (s : State) (v : RoundUnit) : (s.withRound v).port = s.port := rfl
@[simp] theorem withRound_charger (s : State) (v : RoundUnit) : (s.withRound v).charger = s.charger := rfl
@[simp] theorem withRound_line (s : State) (v : RoundUnit) : (s.withRound v).line = s.line := rfl
@[simp] theorem withRound_peers (s : State) (v : RoundUnit) : (s.withRound v).peers = s.peers := rfl
@[simp] theorem withRound_station (s : State) (v : RoundUnit) : (s.withRound v).station = s.station := rfl
@[simp] theorem withRound_start (s : State) (v : RoundUnit) : (s.withRound v).start = s.start := rfl
@[simp] theorem withRound_fault (s : State) (v : RoundUnit) : (s.withRound v).fault = s.fault := rfl
@[simp] theorem withRound_policy (s : State) (v : RoundUnit) : (s.withRound v).policy = s.policy := rfl
@[simp] theorem withRound_pins (s : State) (v : RoundUnit) : (s.withRound v).pins = s.pins := rfl

@[simp] theorem withGauge_pending (s : State) (v : Gauge) : (s.withGauge v).pending = s.pending := rfl
@[simp] theorem withGauge_clock (s : State) (v : Gauge) : (s.withGauge v).clock = s.clock := rfl
@[simp] theorem withGauge_round (s : State) (v : Gauge) : (s.withGauge v).round = s.round := rfl
@[simp] theorem withGauge_gauge (s : State) (v : Gauge) : (s.withGauge v).gauge = v := rfl
@[simp] theorem withGauge_accrued (s : State) (v : Gauge) : (s.withGauge v).accrued = s.accrued := rfl
@[simp] theorem withGauge_apply (s : State) (v : Gauge) : (s.withGauge v).apply = s.apply := rfl
@[simp] theorem withGauge_hinge (s : State) (v : Gauge) : (s.withGauge v).hinge = s.hinge := rfl
@[simp] theorem withGauge_port (s : State) (v : Gauge) : (s.withGauge v).port = s.port := rfl
@[simp] theorem withGauge_charger (s : State) (v : Gauge) : (s.withGauge v).charger = s.charger := rfl
@[simp] theorem withGauge_line (s : State) (v : Gauge) : (s.withGauge v).line = s.line := rfl
@[simp] theorem withGauge_peers (s : State) (v : Gauge) : (s.withGauge v).peers = s.peers := rfl
@[simp] theorem withGauge_station (s : State) (v : Gauge) : (s.withGauge v).station = s.station := rfl
@[simp] theorem withGauge_start (s : State) (v : Gauge) : (s.withGauge v).start = s.start := rfl
@[simp] theorem withGauge_fault (s : State) (v : Gauge) : (s.withGauge v).fault = s.fault := rfl
@[simp] theorem withGauge_policy (s : State) (v : Gauge) : (s.withGauge v).policy = s.policy := rfl
@[simp] theorem withGauge_pins (s : State) (v : Gauge) : (s.withGauge v).pins = s.pins := rfl

@[simp] theorem withAccrued_pending (s : State) (v : OutcomeFlags) : (s.withAccrued v).pending = s.pending := rfl
@[simp] theorem withAccrued_clock (s : State) (v : OutcomeFlags) : (s.withAccrued v).clock = s.clock := rfl
@[simp] theorem withAccrued_round (s : State) (v : OutcomeFlags) : (s.withAccrued v).round = s.round := rfl
@[simp] theorem withAccrued_gauge (s : State) (v : OutcomeFlags) : (s.withAccrued v).gauge = s.gauge := rfl
@[simp] theorem withAccrued_accrued (s : State) (v : OutcomeFlags) : (s.withAccrued v).accrued = v := rfl
@[simp] theorem withAccrued_apply (s : State) (v : OutcomeFlags) : (s.withAccrued v).apply = s.apply := rfl
@[simp] theorem withAccrued_hinge (s : State) (v : OutcomeFlags) : (s.withAccrued v).hinge = s.hinge := rfl
@[simp] theorem withAccrued_port (s : State) (v : OutcomeFlags) : (s.withAccrued v).port = s.port := rfl
@[simp] theorem withAccrued_charger (s : State) (v : OutcomeFlags) : (s.withAccrued v).charger = s.charger := rfl
@[simp] theorem withAccrued_line (s : State) (v : OutcomeFlags) : (s.withAccrued v).line = s.line := rfl
@[simp] theorem withAccrued_peers (s : State) (v : OutcomeFlags) : (s.withAccrued v).peers = s.peers := rfl
@[simp] theorem withAccrued_station (s : State) (v : OutcomeFlags) : (s.withAccrued v).station = s.station := rfl
@[simp] theorem withAccrued_start (s : State) (v : OutcomeFlags) : (s.withAccrued v).start = s.start := rfl
@[simp] theorem withAccrued_fault (s : State) (v : OutcomeFlags) : (s.withAccrued v).fault = s.fault := rfl
@[simp] theorem withAccrued_policy (s : State) (v : OutcomeFlags) : (s.withAccrued v).policy = s.policy := rfl
@[simp] theorem withAccrued_pins (s : State) (v : OutcomeFlags) : (s.withAccrued v).pins = s.pins := rfl

@[simp] theorem withApply_pending (s : State) (v : ApplyUnit) : (s.withApply v).pending = s.pending := rfl
@[simp] theorem withApply_clock (s : State) (v : ApplyUnit) : (s.withApply v).clock = s.clock := rfl
@[simp] theorem withApply_round (s : State) (v : ApplyUnit) : (s.withApply v).round = s.round := rfl
@[simp] theorem withApply_gauge (s : State) (v : ApplyUnit) : (s.withApply v).gauge = s.gauge := rfl
@[simp] theorem withApply_accrued (s : State) (v : ApplyUnit) : (s.withApply v).accrued = s.accrued := rfl
@[simp] theorem withApply_apply (s : State) (v : ApplyUnit) : (s.withApply v).apply = v := rfl
@[simp] theorem withApply_hinge (s : State) (v : ApplyUnit) : (s.withApply v).hinge = s.hinge := rfl
@[simp] theorem withApply_port (s : State) (v : ApplyUnit) : (s.withApply v).port = s.port := rfl
@[simp] theorem withApply_charger (s : State) (v : ApplyUnit) : (s.withApply v).charger = s.charger := rfl
@[simp] theorem withApply_line (s : State) (v : ApplyUnit) : (s.withApply v).line = s.line := rfl
@[simp] theorem withApply_peers (s : State) (v : ApplyUnit) : (s.withApply v).peers = s.peers := rfl
@[simp] theorem withApply_station (s : State) (v : ApplyUnit) : (s.withApply v).station = s.station := rfl
@[simp] theorem withApply_start (s : State) (v : ApplyUnit) : (s.withApply v).start = s.start := rfl
@[simp] theorem withApply_fault (s : State) (v : ApplyUnit) : (s.withApply v).fault = s.fault := rfl
@[simp] theorem withApply_policy (s : State) (v : ApplyUnit) : (s.withApply v).policy = s.policy := rfl
@[simp] theorem withApply_pins (s : State) (v : ApplyUnit) : (s.withApply v).pins = s.pins := rfl

@[simp] theorem withHinge_pending (s : State) (v : HingeStage) : (s.withHinge v).pending = s.pending := rfl
@[simp] theorem withHinge_clock (s : State) (v : HingeStage) : (s.withHinge v).clock = s.clock := rfl
@[simp] theorem withHinge_round (s : State) (v : HingeStage) : (s.withHinge v).round = s.round := rfl
@[simp] theorem withHinge_gauge (s : State) (v : HingeStage) : (s.withHinge v).gauge = s.gauge := rfl
@[simp] theorem withHinge_accrued (s : State) (v : HingeStage) : (s.withHinge v).accrued = s.accrued := rfl
@[simp] theorem withHinge_apply (s : State) (v : HingeStage) : (s.withHinge v).apply = s.apply := rfl
@[simp] theorem withHinge_hinge (s : State) (v : HingeStage) : (s.withHinge v).hinge = v := rfl
@[simp] theorem withHinge_port (s : State) (v : HingeStage) : (s.withHinge v).port = s.port := rfl
@[simp] theorem withHinge_charger (s : State) (v : HingeStage) : (s.withHinge v).charger = s.charger := rfl
@[simp] theorem withHinge_line (s : State) (v : HingeStage) : (s.withHinge v).line = s.line := rfl
@[simp] theorem withHinge_peers (s : State) (v : HingeStage) : (s.withHinge v).peers = s.peers := rfl
@[simp] theorem withHinge_station (s : State) (v : HingeStage) : (s.withHinge v).station = s.station := rfl
@[simp] theorem withHinge_start (s : State) (v : HingeStage) : (s.withHinge v).start = s.start := rfl
@[simp] theorem withHinge_fault (s : State) (v : HingeStage) : (s.withHinge v).fault = s.fault := rfl
@[simp] theorem withHinge_policy (s : State) (v : HingeStage) : (s.withHinge v).policy = s.policy := rfl
@[simp] theorem withHinge_pins (s : State) (v : HingeStage) : (s.withHinge v).pins = s.pins := rfl

@[simp] theorem withPort_pending (s : State) (v : InputPort) : (s.withPort v).pending = s.pending := rfl
@[simp] theorem withPort_clock (s : State) (v : InputPort) : (s.withPort v).clock = s.clock := rfl
@[simp] theorem withPort_round (s : State) (v : InputPort) : (s.withPort v).round = s.round := rfl
@[simp] theorem withPort_gauge (s : State) (v : InputPort) : (s.withPort v).gauge = s.gauge := rfl
@[simp] theorem withPort_accrued (s : State) (v : InputPort) : (s.withPort v).accrued = s.accrued := rfl
@[simp] theorem withPort_apply (s : State) (v : InputPort) : (s.withPort v).apply = s.apply := rfl
@[simp] theorem withPort_hinge (s : State) (v : InputPort) : (s.withPort v).hinge = s.hinge := rfl
@[simp] theorem withPort_port (s : State) (v : InputPort) : (s.withPort v).port = v := rfl
@[simp] theorem withPort_charger (s : State) (v : InputPort) : (s.withPort v).charger = s.charger := rfl
@[simp] theorem withPort_line (s : State) (v : InputPort) : (s.withPort v).line = s.line := rfl
@[simp] theorem withPort_peers (s : State) (v : InputPort) : (s.withPort v).peers = s.peers := rfl
@[simp] theorem withPort_station (s : State) (v : InputPort) : (s.withPort v).station = s.station := rfl
@[simp] theorem withPort_start (s : State) (v : InputPort) : (s.withPort v).start = s.start := rfl
@[simp] theorem withPort_fault (s : State) (v : InputPort) : (s.withPort v).fault = s.fault := rfl
@[simp] theorem withPort_policy (s : State) (v : InputPort) : (s.withPort v).policy = s.policy := rfl
@[simp] theorem withPort_pins (s : State) (v : InputPort) : (s.withPort v).pins = s.pins := rfl

@[simp] theorem withCharger_pending (s : State) (v : Charger) : (s.withCharger v).pending = s.pending := rfl
@[simp] theorem withCharger_clock (s : State) (v : Charger) : (s.withCharger v).clock = s.clock := rfl
@[simp] theorem withCharger_round (s : State) (v : Charger) : (s.withCharger v).round = s.round := rfl
@[simp] theorem withCharger_gauge (s : State) (v : Charger) : (s.withCharger v).gauge = s.gauge := rfl
@[simp] theorem withCharger_accrued (s : State) (v : Charger) : (s.withCharger v).accrued = s.accrued := rfl
@[simp] theorem withCharger_apply (s : State) (v : Charger) : (s.withCharger v).apply = s.apply := rfl
@[simp] theorem withCharger_hinge (s : State) (v : Charger) : (s.withCharger v).hinge = s.hinge := rfl
@[simp] theorem withCharger_port (s : State) (v : Charger) : (s.withCharger v).port = s.port := rfl
@[simp] theorem withCharger_charger (s : State) (v : Charger) : (s.withCharger v).charger = v := rfl
@[simp] theorem withCharger_line (s : State) (v : Charger) : (s.withCharger v).line = s.line := rfl
@[simp] theorem withCharger_peers (s : State) (v : Charger) : (s.withCharger v).peers = s.peers := rfl
@[simp] theorem withCharger_station (s : State) (v : Charger) : (s.withCharger v).station = s.station := rfl
@[simp] theorem withCharger_start (s : State) (v : Charger) : (s.withCharger v).start = s.start := rfl
@[simp] theorem withCharger_fault (s : State) (v : Charger) : (s.withCharger v).fault = s.fault := rfl
@[simp] theorem withCharger_policy (s : State) (v : Charger) : (s.withCharger v).policy = s.policy := rfl
@[simp] theorem withCharger_pins (s : State) (v : Charger) : (s.withCharger v).pins = s.pins := rfl

@[simp] theorem withLine_pending (s : State) (v : LineController) : (s.withLine v).pending = s.pending := rfl
@[simp] theorem withLine_clock (s : State) (v : LineController) : (s.withLine v).clock = s.clock := rfl
@[simp] theorem withLine_round (s : State) (v : LineController) : (s.withLine v).round = s.round := rfl
@[simp] theorem withLine_gauge (s : State) (v : LineController) : (s.withLine v).gauge = s.gauge := rfl
@[simp] theorem withLine_accrued (s : State) (v : LineController) : (s.withLine v).accrued = s.accrued := rfl
@[simp] theorem withLine_apply (s : State) (v : LineController) : (s.withLine v).apply = s.apply := rfl
@[simp] theorem withLine_hinge (s : State) (v : LineController) : (s.withLine v).hinge = s.hinge := rfl
@[simp] theorem withLine_port (s : State) (v : LineController) : (s.withLine v).port = s.port := rfl
@[simp] theorem withLine_charger (s : State) (v : LineController) : (s.withLine v).charger = s.charger := rfl
@[simp] theorem withLine_line (s : State) (v : LineController) : (s.withLine v).line = v := rfl
@[simp] theorem withLine_peers (s : State) (v : LineController) : (s.withLine v).peers = s.peers := rfl
@[simp] theorem withLine_station (s : State) (v : LineController) : (s.withLine v).station = s.station := rfl
@[simp] theorem withLine_start (s : State) (v : LineController) : (s.withLine v).start = s.start := rfl
@[simp] theorem withLine_fault (s : State) (v : LineController) : (s.withLine v).fault = s.fault := rfl
@[simp] theorem withLine_policy (s : State) (v : LineController) : (s.withLine v).policy = s.policy := rfl
@[simp] theorem withLine_pins (s : State) (v : LineController) : (s.withLine v).pins = s.pins := rfl

@[simp] theorem withPeers_pending (s : State) (v : List Entry) : (s.withPeers v).pending = s.pending := rfl
@[simp] theorem withPeers_clock (s : State) (v : List Entry) : (s.withPeers v).clock = s.clock := rfl
@[simp] theorem withPeers_round (s : State) (v : List Entry) : (s.withPeers v).round = s.round := rfl
@[simp] theorem withPeers_gauge (s : State) (v : List Entry) : (s.withPeers v).gauge = s.gauge := rfl
@[simp] theorem withPeers_accrued (s : State) (v : List Entry) : (s.withPeers v).accrued = s.accrued := rfl
@[simp] theorem withPeers_apply (s : State) (v : List Entry) : (s.withPeers v).apply = s.apply := rfl
@[simp] theorem withPeers_hinge (s : State) (v : List Entry) : (s.withPeers v).hinge = s.hinge := rfl
@[simp] theorem withPeers_port (s : State) (v : List Entry) : (s.withPeers v).port = s.port := rfl
@[simp] theorem withPeers_charger (s : State) (v : List Entry) : (s.withPeers v).charger = s.charger := rfl
@[simp] theorem withPeers_line (s : State) (v : List Entry) : (s.withPeers v).line = s.line := rfl
@[simp] theorem withPeers_peers (s : State) (v : List Entry) : (s.withPeers v).peers = v := rfl
@[simp] theorem withPeers_station (s : State) (v : List Entry) : (s.withPeers v).station = s.station := rfl
@[simp] theorem withPeers_start (s : State) (v : List Entry) : (s.withPeers v).start = s.start := rfl
@[simp] theorem withPeers_fault (s : State) (v : List Entry) : (s.withPeers v).fault = s.fault := rfl
@[simp] theorem withPeers_policy (s : State) (v : List Entry) : (s.withPeers v).policy = s.policy := rfl
@[simp] theorem withPeers_pins (s : State) (v : List Entry) : (s.withPeers v).pins = s.pins := rfl

@[simp] theorem withStation_pending (s : State) (v : StationMachine) : (s.withStation v).pending = s.pending := rfl
@[simp] theorem withStation_clock (s : State) (v : StationMachine) : (s.withStation v).clock = s.clock := rfl
@[simp] theorem withStation_round (s : State) (v : StationMachine) : (s.withStation v).round = s.round := rfl
@[simp] theorem withStation_gauge (s : State) (v : StationMachine) : (s.withStation v).gauge = s.gauge := rfl
@[simp] theorem withStation_accrued (s : State) (v : StationMachine) : (s.withStation v).accrued = s.accrued := rfl
@[simp] theorem withStation_apply (s : State) (v : StationMachine) : (s.withStation v).apply = s.apply := rfl
@[simp] theorem withStation_hinge (s : State) (v : StationMachine) : (s.withStation v).hinge = s.hinge := rfl
@[simp] theorem withStation_port (s : State) (v : StationMachine) : (s.withStation v).port = s.port := rfl
@[simp] theorem withStation_charger (s : State) (v : StationMachine) : (s.withStation v).charger = s.charger := rfl
@[simp] theorem withStation_line (s : State) (v : StationMachine) : (s.withStation v).line = s.line := rfl
@[simp] theorem withStation_peers (s : State) (v : StationMachine) : (s.withStation v).peers = s.peers := rfl
@[simp] theorem withStation_station (s : State) (v : StationMachine) : (s.withStation v).station = v := rfl
@[simp] theorem withStation_start (s : State) (v : StationMachine) : (s.withStation v).start = s.start := rfl
@[simp] theorem withStation_fault (s : State) (v : StationMachine) : (s.withStation v).fault = s.fault := rfl
@[simp] theorem withStation_policy (s : State) (v : StationMachine) : (s.withStation v).policy = s.policy := rfl
@[simp] theorem withStation_pins (s : State) (v : StationMachine) : (s.withStation v).pins = s.pins := rfl

@[simp] theorem withStart_pending (s : State) (v : StartSequencer) : (s.withStart v).pending = s.pending := rfl
@[simp] theorem withStart_clock (s : State) (v : StartSequencer) : (s.withStart v).clock = s.clock := rfl
@[simp] theorem withStart_round (s : State) (v : StartSequencer) : (s.withStart v).round = s.round := rfl
@[simp] theorem withStart_gauge (s : State) (v : StartSequencer) : (s.withStart v).gauge = s.gauge := rfl
@[simp] theorem withStart_accrued (s : State) (v : StartSequencer) : (s.withStart v).accrued = s.accrued := rfl
@[simp] theorem withStart_apply (s : State) (v : StartSequencer) : (s.withStart v).apply = s.apply := rfl
@[simp] theorem withStart_hinge (s : State) (v : StartSequencer) : (s.withStart v).hinge = s.hinge := rfl
@[simp] theorem withStart_port (s : State) (v : StartSequencer) : (s.withStart v).port = s.port := rfl
@[simp] theorem withStart_charger (s : State) (v : StartSequencer) : (s.withStart v).charger = s.charger := rfl
@[simp] theorem withStart_line (s : State) (v : StartSequencer) : (s.withStart v).line = s.line := rfl
@[simp] theorem withStart_peers (s : State) (v : StartSequencer) : (s.withStart v).peers = s.peers := rfl
@[simp] theorem withStart_station (s : State) (v : StartSequencer) : (s.withStart v).station = s.station := rfl
@[simp] theorem withStart_start (s : State) (v : StartSequencer) : (s.withStart v).start = v := rfl
@[simp] theorem withStart_fault (s : State) (v : StartSequencer) : (s.withStart v).fault = s.fault := rfl
@[simp] theorem withStart_policy (s : State) (v : StartSequencer) : (s.withStart v).policy = s.policy := rfl
@[simp] theorem withStart_pins (s : State) (v : StartSequencer) : (s.withStart v).pins = s.pins := rfl

@[simp] theorem withFault_pending (s : State) (v : FaultUnit) : (s.withFault v).pending = s.pending := rfl
@[simp] theorem withFault_clock (s : State) (v : FaultUnit) : (s.withFault v).clock = s.clock := rfl
@[simp] theorem withFault_round (s : State) (v : FaultUnit) : (s.withFault v).round = s.round := rfl
@[simp] theorem withFault_gauge (s : State) (v : FaultUnit) : (s.withFault v).gauge = s.gauge := rfl
@[simp] theorem withFault_accrued (s : State) (v : FaultUnit) : (s.withFault v).accrued = s.accrued := rfl
@[simp] theorem withFault_apply (s : State) (v : FaultUnit) : (s.withFault v).apply = s.apply := rfl
@[simp] theorem withFault_hinge (s : State) (v : FaultUnit) : (s.withFault v).hinge = s.hinge := rfl
@[simp] theorem withFault_port (s : State) (v : FaultUnit) : (s.withFault v).port = s.port := rfl
@[simp] theorem withFault_charger (s : State) (v : FaultUnit) : (s.withFault v).charger = s.charger := rfl
@[simp] theorem withFault_line (s : State) (v : FaultUnit) : (s.withFault v).line = s.line := rfl
@[simp] theorem withFault_peers (s : State) (v : FaultUnit) : (s.withFault v).peers = s.peers := rfl
@[simp] theorem withFault_station (s : State) (v : FaultUnit) : (s.withFault v).station = s.station := rfl
@[simp] theorem withFault_start (s : State) (v : FaultUnit) : (s.withFault v).start = s.start := rfl
@[simp] theorem withFault_fault (s : State) (v : FaultUnit) : (s.withFault v).fault = v := rfl
@[simp] theorem withFault_policy (s : State) (v : FaultUnit) : (s.withFault v).policy = s.policy := rfl
@[simp] theorem withFault_pins (s : State) (v : FaultUnit) : (s.withFault v).pins = s.pins := rfl

@[simp] theorem withPolicy_pending (s : State) (v : Policy) : (s.withPolicy v).pending = s.pending := rfl
@[simp] theorem withPolicy_clock (s : State) (v : Policy) : (s.withPolicy v).clock = s.clock := rfl
@[simp] theorem withPolicy_round (s : State) (v : Policy) : (s.withPolicy v).round = s.round := rfl
@[simp] theorem withPolicy_gauge (s : State) (v : Policy) : (s.withPolicy v).gauge = s.gauge := rfl
@[simp] theorem withPolicy_accrued (s : State) (v : Policy) : (s.withPolicy v).accrued = s.accrued := rfl
@[simp] theorem withPolicy_apply (s : State) (v : Policy) : (s.withPolicy v).apply = s.apply := rfl
@[simp] theorem withPolicy_hinge (s : State) (v : Policy) : (s.withPolicy v).hinge = s.hinge := rfl
@[simp] theorem withPolicy_port (s : State) (v : Policy) : (s.withPolicy v).port = s.port := rfl
@[simp] theorem withPolicy_charger (s : State) (v : Policy) : (s.withPolicy v).charger = s.charger := rfl
@[simp] theorem withPolicy_line (s : State) (v : Policy) : (s.withPolicy v).line = s.line := rfl
@[simp] theorem withPolicy_peers (s : State) (v : Policy) : (s.withPolicy v).peers = s.peers := rfl
@[simp] theorem withPolicy_station (s : State) (v : Policy) : (s.withPolicy v).station = s.station := rfl
@[simp] theorem withPolicy_start (s : State) (v : Policy) : (s.withPolicy v).start = s.start := rfl
@[simp] theorem withPolicy_fault (s : State) (v : Policy) : (s.withPolicy v).fault = s.fault := rfl
@[simp] theorem withPolicy_policy (s : State) (v : Policy) : (s.withPolicy v).policy = v := rfl
@[simp] theorem withPolicy_pins (s : State) (v : Policy) : (s.withPolicy v).pins = s.pins := rfl

@[simp] theorem withPins_pending (s : State) (v : Pins) : (s.withPins v).pending = s.pending := rfl
@[simp] theorem withPins_clock (s : State) (v : Pins) : (s.withPins v).clock = s.clock := rfl
@[simp] theorem withPins_round (s : State) (v : Pins) : (s.withPins v).round = s.round := rfl
@[simp] theorem withPins_gauge (s : State) (v : Pins) : (s.withPins v).gauge = s.gauge := rfl
@[simp] theorem withPins_accrued (s : State) (v : Pins) : (s.withPins v).accrued = s.accrued := rfl
@[simp] theorem withPins_apply (s : State) (v : Pins) : (s.withPins v).apply = s.apply := rfl
@[simp] theorem withPins_hinge (s : State) (v : Pins) : (s.withPins v).hinge = s.hinge := rfl
@[simp] theorem withPins_port (s : State) (v : Pins) : (s.withPins v).port = s.port := rfl
@[simp] theorem withPins_charger (s : State) (v : Pins) : (s.withPins v).charger = s.charger := rfl
@[simp] theorem withPins_line (s : State) (v : Pins) : (s.withPins v).line = s.line := rfl
@[simp] theorem withPins_peers (s : State) (v : Pins) : (s.withPins v).peers = s.peers := rfl
@[simp] theorem withPins_station (s : State) (v : Pins) : (s.withPins v).station = s.station := rfl
@[simp] theorem withPins_start (s : State) (v : Pins) : (s.withPins v).start = s.start := rfl
@[simp] theorem withPins_fault (s : State) (v : Pins) : (s.withPins v).fault = s.fault := rfl
@[simp] theorem withPins_policy (s : State) (v : Pins) : (s.withPins v).policy = s.policy := rfl
@[simp] theorem withPins_pins (s : State) (v : Pins) : (s.withPins v).pins = v := rfl

end Sys2Proof.Machine.State
end

