-- ==== Sys2Proof/Laws/Frames.lean ====
section
/-!
SUPPORT. What each shared operation leaves alone: one lemma for each block of the state that the operation does not change,
so that no proof unfolds an operation to see it.
-/

namespace Sys2Proof.Machine.State

set_option linter.unusedTactic false
set_option linter.unreachableTactic false

@[simp] theorem count_pending (k : Corrected) (s : State) : (s.count k).pending = s.pending := by
  simp only [State.count]
  repeat' split
  all_goals simp
@[simp] theorem count_clock (k : Corrected) (s : State) : (s.count k).clock = s.clock := by
  simp only [State.count]
  repeat' split
  all_goals simp
@[simp] theorem count_round (k : Corrected) (s : State) : (s.count k).round = s.round := by
  simp only [State.count]
  repeat' split
  all_goals simp
@[simp] theorem count_gauge (k : Corrected) (s : State) : (s.count k).gauge = s.gauge := by
  simp only [State.count]
  repeat' split
  all_goals simp
@[simp] theorem count_accrued (k : Corrected) (s : State) : (s.count k).accrued = s.accrued := by
  simp only [State.count]
  repeat' split
  all_goals simp
@[simp] theorem count_apply (k : Corrected) (s : State) : (s.count k).apply = s.apply := by
  simp only [State.count]
  repeat' split
  all_goals simp
@[simp] theorem count_hinge (k : Corrected) (s : State) : (s.count k).hinge = s.hinge := by
  simp only [State.count]
  repeat' split
  all_goals simp
@[simp] theorem count_port (k : Corrected) (s : State) : (s.count k).port = s.port := by
  simp only [State.count]
  repeat' split
  all_goals simp
@[simp] theorem count_charger (k : Corrected) (s : State) : (s.count k).charger = s.charger := by
  simp only [State.count]
  repeat' split
  all_goals simp
@[simp] theorem count_line (k : Corrected) (s : State) : (s.count k).line = s.line := by
  simp only [State.count]
  repeat' split
  all_goals simp
@[simp] theorem count_peers (k : Corrected) (s : State) : (s.count k).peers = s.peers := by
  simp only [State.count]
  repeat' split
  all_goals simp
@[simp] theorem count_station (k : Corrected) (s : State) : (s.count k).station = s.station := by
  simp only [State.count]
  repeat' split
  all_goals simp
@[simp] theorem count_start (k : Corrected) (s : State) : (s.count k).start = s.start := by
  simp only [State.count]
  repeat' split
  all_goals simp
@[simp] theorem count_policy (k : Corrected) (s : State) : (s.count k).policy = s.policy := by
  simp only [State.count]
  repeat' split
  all_goals simp
@[simp] theorem count_pins (k : Corrected) (s : State) : (s.count k).pins = s.pins := by
  simp only [State.count]
  repeat' split
  all_goals simp

@[simp] theorem countIf_pending (b : Bool) (k : Corrected) (s : State) : (s.countIf b k).pending = s.pending := by
  simp only [State.countIf]
  repeat' split
  all_goals simp
@[simp] theorem countIf_clock (b : Bool) (k : Corrected) (s : State) : (s.countIf b k).clock = s.clock := by
  simp only [State.countIf]
  repeat' split
  all_goals simp
@[simp] theorem countIf_round (b : Bool) (k : Corrected) (s : State) : (s.countIf b k).round = s.round := by
  simp only [State.countIf]
  repeat' split
  all_goals simp
@[simp] theorem countIf_gauge (b : Bool) (k : Corrected) (s : State) : (s.countIf b k).gauge = s.gauge := by
  simp only [State.countIf]
  repeat' split
  all_goals simp
@[simp] theorem countIf_accrued (b : Bool) (k : Corrected) (s : State) : (s.countIf b k).accrued = s.accrued := by
  simp only [State.countIf]
  repeat' split
  all_goals simp
@[simp] theorem countIf_apply (b : Bool) (k : Corrected) (s : State) : (s.countIf b k).apply = s.apply := by
  simp only [State.countIf]
  repeat' split
  all_goals simp
@[simp] theorem countIf_hinge (b : Bool) (k : Corrected) (s : State) : (s.countIf b k).hinge = s.hinge := by
  simp only [State.countIf]
  repeat' split
  all_goals simp
@[simp] theorem countIf_port (b : Bool) (k : Corrected) (s : State) : (s.countIf b k).port = s.port := by
  simp only [State.countIf]
  repeat' split
  all_goals simp
@[simp] theorem countIf_charger (b : Bool) (k : Corrected) (s : State) : (s.countIf b k).charger = s.charger := by
  simp only [State.countIf]
  repeat' split
  all_goals simp
@[simp] theorem countIf_line (b : Bool) (k : Corrected) (s : State) : (s.countIf b k).line = s.line := by
  simp only [State.countIf]
  repeat' split
  all_goals simp
@[simp] theorem countIf_peers (b : Bool) (k : Corrected) (s : State) : (s.countIf b k).peers = s.peers := by
  simp only [State.countIf]
  repeat' split
  all_goals simp
@[simp] theorem countIf_station (b : Bool) (k : Corrected) (s : State) : (s.countIf b k).station = s.station := by
  simp only [State.countIf]
  repeat' split
  all_goals simp
@[simp] theorem countIf_start (b : Bool) (k : Corrected) (s : State) : (s.countIf b k).start = s.start := by
  simp only [State.countIf]
  repeat' split
  all_goals simp
@[simp] theorem countIf_policy (b : Bool) (k : Corrected) (s : State) : (s.countIf b k).policy = s.policy := by
  simp only [State.countIf]
  repeat' split
  all_goals simp
@[simp] theorem countIf_pins (b : Bool) (k : Corrected) (s : State) : (s.countIf b k).pins = s.pins := by
  simp only [State.countIf]
  repeat' split
  all_goals simp

@[simp] theorem handAlert_pending (a : AlertContents) (s : State) : (s.handAlert a).pending = s.pending := by
  simp only [State.handAlert]
  repeat' split
  all_goals simp
@[simp] theorem handAlert_clock (a : AlertContents) (s : State) : (s.handAlert a).clock = s.clock := by
  simp only [State.handAlert]
  repeat' split
  all_goals simp
@[simp] theorem handAlert_round (a : AlertContents) (s : State) : (s.handAlert a).round = s.round := by
  simp only [State.handAlert]
  repeat' split
  all_goals simp
@[simp] theorem handAlert_gauge (a : AlertContents) (s : State) : (s.handAlert a).gauge = s.gauge := by
  simp only [State.handAlert]
  repeat' split
  all_goals simp
@[simp] theorem handAlert_accrued (a : AlertContents) (s : State) : (s.handAlert a).accrued = s.accrued := by
  simp only [State.handAlert]
  repeat' split
  all_goals simp
@[simp] theorem handAlert_apply (a : AlertContents) (s : State) : (s.handAlert a).apply = s.apply := by
  simp only [State.handAlert]
  repeat' split
  all_goals simp
@[simp] theorem handAlert_hinge (a : AlertContents) (s : State) : (s.handAlert a).hinge = s.hinge := by
  simp only [State.handAlert]
  repeat' split
  all_goals simp
@[simp] theorem handAlert_port (a : AlertContents) (s : State) : (s.handAlert a).port = s.port := by
  simp only [State.handAlert]
  repeat' split
  all_goals simp
@[simp] theorem handAlert_charger (a : AlertContents) (s : State) : (s.handAlert a).charger = s.charger := by
  simp only [State.handAlert]
  repeat' split
  all_goals simp
@[simp] theorem handAlert_peers (a : AlertContents) (s : State) : (s.handAlert a).peers = s.peers := by
  simp only [State.handAlert]
  repeat' split
  all_goals simp
@[simp] theorem handAlert_station (a : AlertContents) (s : State) : (s.handAlert a).station = s.station := by
  simp only [State.handAlert]
  repeat' split
  all_goals simp
@[simp] theorem handAlert_start (a : AlertContents) (s : State) : (s.handAlert a).start = s.start := by
  simp only [State.handAlert]
  repeat' split
  all_goals simp
@[simp] theorem handAlert_policy (a : AlertContents) (s : State) : (s.handAlert a).policy = s.policy := by
  simp only [State.handAlert]
  repeat' split
  all_goals simp
@[simp] theorem handAlert_pins (a : AlertContents) (s : State) : (s.handAlert a).pins = s.pins := by
  simp only [State.handAlert]
  repeat' split
  all_goals simp

@[simp] theorem handReply_pending (a : ReplyContents) (s : State) : (s.handReply a).pending = s.pending := by
  simp only [State.handReply]
  repeat' split
  all_goals simp
@[simp] theorem handReply_clock (a : ReplyContents) (s : State) : (s.handReply a).clock = s.clock := by
  simp only [State.handReply]
  repeat' split
  all_goals simp
@[simp] theorem handReply_round (a : ReplyContents) (s : State) : (s.handReply a).round = s.round := by
  simp only [State.handReply]
  repeat' split
  all_goals simp
@[simp] theorem handReply_gauge (a : ReplyContents) (s : State) : (s.handReply a).gauge = s.gauge := by
  simp only [State.handReply]
  repeat' split
  all_goals simp
@[simp] theorem handReply_accrued (a : ReplyContents) (s : State) : (s.handReply a).accrued = s.accrued := by
  simp only [State.handReply]
  repeat' split
  all_goals simp
@[simp] theorem handReply_apply (a : ReplyContents) (s : State) : (s.handReply a).apply = s.apply := by
  simp only [State.handReply]
  repeat' split
  all_goals simp
@[simp] theorem handReply_hinge (a : ReplyContents) (s : State) : (s.handReply a).hinge = s.hinge := by
  simp only [State.handReply]
  repeat' split
  all_goals simp
@[simp] theorem handReply_port (a : ReplyContents) (s : State) : (s.handReply a).port = s.port := by
  simp only [State.handReply]
  repeat' split
  all_goals simp
@[simp] theorem handReply_charger (a : ReplyContents) (s : State) : (s.handReply a).charger = s.charger := by
  simp only [State.handReply]
  repeat' split
  all_goals simp
@[simp] theorem handReply_peers (a : ReplyContents) (s : State) : (s.handReply a).peers = s.peers := by
  simp only [State.handReply]
  repeat' split
  all_goals simp
@[simp] theorem handReply_station (a : ReplyContents) (s : State) : (s.handReply a).station = s.station := by
  simp only [State.handReply]
  repeat' split
  all_goals simp
@[simp] theorem handReply_start (a : ReplyContents) (s : State) : (s.handReply a).start = s.start := by
  simp only [State.handReply]
  repeat' split
  all_goals simp
@[simp] theorem handReply_policy (a : ReplyContents) (s : State) : (s.handReply a).policy = s.policy := by
  simp only [State.handReply]
  repeat' split
  all_goals simp
@[simp] theorem handReply_pins (a : ReplyContents) (s : State) : (s.handReply a).pins = s.pins := by
  simp only [State.handReply]
  repeat' split
  all_goals simp

@[simp] theorem handState_pending (p : OwnState) (s : State) : (s.handState p).pending = s.pending := by
  simp only [State.handState]
  repeat' split
  all_goals simp
@[simp] theorem handState_clock (p : OwnState) (s : State) : (s.handState p).clock = s.clock := by
  simp only [State.handState]
  repeat' split
  all_goals simp
@[simp] theorem handState_gauge (p : OwnState) (s : State) : (s.handState p).gauge = s.gauge := by
  simp only [State.handState]
  repeat' split
  all_goals simp
@[simp] theorem handState_accrued (p : OwnState) (s : State) : (s.handState p).accrued = s.accrued := by
  simp only [State.handState]
  repeat' split
  all_goals simp
@[simp] theorem handState_apply (p : OwnState) (s : State) : (s.handState p).apply = s.apply := by
  simp only [State.handState]
  repeat' split
  all_goals simp
@[simp] theorem handState_hinge (p : OwnState) (s : State) : (s.handState p).hinge = s.hinge := by
  simp only [State.handState]
  repeat' split
  all_goals simp
@[simp] theorem handState_port (p : OwnState) (s : State) : (s.handState p).port = s.port := by
  simp only [State.handState]
  repeat' split
  all_goals simp
@[simp] theorem handState_charger (p : OwnState) (s : State) : (s.handState p).charger = s.charger := by
  simp only [State.handState]
  repeat' split
  all_goals simp
@[simp] theorem handState_peers (p : OwnState) (s : State) : (s.handState p).peers = s.peers := by
  simp only [State.handState]
  repeat' split
  all_goals simp
@[simp] theorem handState_station (p : OwnState) (s : State) : (s.handState p).station = s.station := by
  simp only [State.handState]
  repeat' split
  all_goals simp
@[simp] theorem handState_start (p : OwnState) (s : State) : (s.handState p).start = s.start := by
  simp only [State.handState]
  repeat' split
  all_goals simp
@[simp] theorem handState_policy (p : OwnState) (s : State) : (s.handState p).policy = s.policy := by
  simp only [State.handState]
  repeat' split
  all_goals simp
@[simp] theorem handState_pins (p : OwnState) (s : State) : (s.handState p).pins = s.pins := by
  simp only [State.handState]
  repeat' split
  all_goals simp

@[simp] theorem logKind_pending (k : Kind) (s : State) : (s.logKind k).pending = s.pending := by
  simp only [State.logKind]
  repeat' split
  all_goals simp
@[simp] theorem logKind_clock (k : Kind) (s : State) : (s.logKind k).clock = s.clock := by
  simp only [State.logKind]
  repeat' split
  all_goals simp
@[simp] theorem logKind_round (k : Kind) (s : State) : (s.logKind k).round = s.round := by
  simp only [State.logKind]
  repeat' split
  all_goals simp
@[simp] theorem logKind_gauge (k : Kind) (s : State) : (s.logKind k).gauge = s.gauge := by
  simp only [State.logKind]
  repeat' split
  all_goals simp
@[simp] theorem logKind_accrued (k : Kind) (s : State) : (s.logKind k).accrued = s.accrued := by
  simp only [State.logKind]
  repeat' split
  all_goals simp
@[simp] theorem logKind_apply (k : Kind) (s : State) : (s.logKind k).apply = s.apply := by
  simp only [State.logKind]
  repeat' split
  all_goals simp
@[simp] theorem logKind_hinge (k : Kind) (s : State) : (s.logKind k).hinge = s.hinge := by
  simp only [State.logKind]
  repeat' split
  all_goals simp
@[simp] theorem logKind_port (k : Kind) (s : State) : (s.logKind k).port = s.port := by
  simp only [State.logKind]
  repeat' split
  all_goals simp
@[simp] theorem logKind_charger (k : Kind) (s : State) : (s.logKind k).charger = s.charger := by
  simp only [State.logKind]
  repeat' split
  all_goals simp
@[simp] theorem logKind_peers (k : Kind) (s : State) : (s.logKind k).peers = s.peers := by
  simp only [State.logKind]
  repeat' split
  all_goals simp
@[simp] theorem logKind_station (k : Kind) (s : State) : (s.logKind k).station = s.station := by
  simp only [State.logKind]
  repeat' split
  all_goals simp
@[simp] theorem logKind_start (k : Kind) (s : State) : (s.logKind k).start = s.start := by
  simp only [State.logKind]
  repeat' split
  all_goals simp
@[simp] theorem logKind_policy (k : Kind) (s : State) : (s.logKind k).policy = s.policy := by
  simp only [State.logKind]
  repeat' split
  all_goals simp
@[simp] theorem logKind_pins (k : Kind) (s : State) : (s.logKind k).pins = s.pins := by
  simp only [State.logKind]
  repeat' split
  all_goals simp

@[simp] theorem beginSweep_pending (s : State) : s.beginSweep.pending = s.pending := by
  simp only [State.beginSweep]
  repeat' split
  all_goals simp
@[simp] theorem beginSweep_clock (s : State) : s.beginSweep.clock = s.clock := by
  simp only [State.beginSweep]
  repeat' split
  all_goals simp
@[simp] theorem beginSweep_gauge (s : State) : s.beginSweep.gauge = s.gauge := by
  simp only [State.beginSweep]
  repeat' split
  all_goals simp
@[simp] theorem beginSweep_accrued (s : State) : s.beginSweep.accrued = s.accrued := by
  simp only [State.beginSweep]
  repeat' split
  all_goals simp
@[simp] theorem beginSweep_apply (s : State) : s.beginSweep.apply = s.apply := by
  simp only [State.beginSweep]
  repeat' split
  all_goals simp
@[simp] theorem beginSweep_port (s : State) : s.beginSweep.port = s.port := by
  simp only [State.beginSweep]
  repeat' split
  all_goals simp
@[simp] theorem beginSweep_charger (s : State) : s.beginSweep.charger = s.charger := by
  simp only [State.beginSweep]
  repeat' split
  all_goals simp
@[simp] theorem beginSweep_line (s : State) : s.beginSweep.line = s.line := by
  simp only [State.beginSweep]
  repeat' split
  all_goals simp
@[simp] theorem beginSweep_peers (s : State) : s.beginSweep.peers = s.peers := by
  simp only [State.beginSweep]
  repeat' split
  all_goals simp
@[simp] theorem beginSweep_station (s : State) : s.beginSweep.station = s.station := by
  simp only [State.beginSweep]
  repeat' split
  all_goals simp
@[simp] theorem beginSweep_start (s : State) : s.beginSweep.start = s.start := by
  simp only [State.beginSweep]
  repeat' split
  all_goals simp
@[simp] theorem beginSweep_fault (s : State) : s.beginSweep.fault = s.fault := by
  simp only [State.beginSweep]
  repeat' split
  all_goals simp
@[simp] theorem beginSweep_policy (s : State) : s.beginSweep.policy = s.policy := by
  simp only [State.beginSweep]
  repeat' split
  all_goals simp
@[simp] theorem beginSweep_pins (s : State) : s.beginSweep.pins = s.pins := by
  simp only [State.beginSweep]
  repeat' split
  all_goals simp

@[simp] theorem requestSweep_pending (s : State) : s.requestSweep.pending = s.pending := by
  simp only [State.requestSweep]
  repeat' split
  all_goals simp
@[simp] theorem requestSweep_clock (s : State) : s.requestSweep.clock = s.clock := by
  simp only [State.requestSweep]
  repeat' split
  all_goals simp
@[simp] theorem requestSweep_gauge (s : State) : s.requestSweep.gauge = s.gauge := by
  simp only [State.requestSweep]
  repeat' split
  all_goals simp
@[simp] theorem requestSweep_accrued (s : State) : s.requestSweep.accrued = s.accrued := by
  simp only [State.requestSweep]
  repeat' split
  all_goals simp
@[simp] theorem requestSweep_apply (s : State) : s.requestSweep.apply = s.apply := by
  simp only [State.requestSweep]
  repeat' split
  all_goals simp
@[simp] theorem requestSweep_port (s : State) : s.requestSweep.port = s.port := by
  simp only [State.requestSweep]
  repeat' split
  all_goals simp
@[simp] theorem requestSweep_charger (s : State) : s.requestSweep.charger = s.charger := by
  simp only [State.requestSweep]
  repeat' split
  all_goals simp
@[simp] theorem requestSweep_line (s : State) : s.requestSweep.line = s.line := by
  simp only [State.requestSweep]
  repeat' split
  all_goals simp
@[simp] theorem requestSweep_peers (s : State) : s.requestSweep.peers = s.peers := by
  simp only [State.requestSweep]
  repeat' split
  all_goals simp
@[simp] theorem requestSweep_station (s : State) : s.requestSweep.station = s.station := by
  simp only [State.requestSweep]
  repeat' split
  all_goals simp
@[simp] theorem requestSweep_start (s : State) : s.requestSweep.start = s.start := by
  simp only [State.requestSweep]
  repeat' split
  all_goals simp
@[simp] theorem requestSweep_fault (s : State) : s.requestSweep.fault = s.fault := by
  simp only [State.requestSweep]
  repeat' split
  all_goals simp
@[simp] theorem requestSweep_policy (s : State) : s.requestSweep.policy = s.policy := by
  simp only [State.requestSweep]
  repeat' split
  all_goals simp
@[simp] theorem requestSweep_pins (s : State) : s.requestSweep.pins = s.pins := by
  simp only [State.requestSweep]
  repeat' split
  all_goals simp

@[simp] theorem otherEdge_pending (s : State) : s.otherEdge.pending = s.pending := by
  simp only [State.otherEdge]
  repeat' split
  all_goals simp
@[simp] theorem otherEdge_clock (s : State) : s.otherEdge.clock = s.clock := by
  simp only [State.otherEdge]
  repeat' split
  all_goals simp
@[simp] theorem otherEdge_round (s : State) : s.otherEdge.round = s.round := by
  simp only [State.otherEdge]
  repeat' split
  all_goals simp
@[simp] theorem otherEdge_gauge (s : State) : s.otherEdge.gauge = s.gauge := by
  simp only [State.otherEdge]
  repeat' split
  all_goals simp
@[simp] theorem otherEdge_accrued (s : State) : s.otherEdge.accrued = s.accrued := by
  simp only [State.otherEdge]
  repeat' split
  all_goals simp
@[simp] theorem otherEdge_apply (s : State) : s.otherEdge.apply = s.apply := by
  simp only [State.otherEdge]
  repeat' split
  all_goals simp
@[simp] theorem otherEdge_hinge (s : State) : s.otherEdge.hinge = s.hinge := by
  simp only [State.otherEdge]
  repeat' split
  all_goals simp
@[simp] theorem otherEdge_port (s : State) : s.otherEdge.port = s.port := by
  simp only [State.otherEdge]
  repeat' split
  all_goals simp
@[simp] theorem otherEdge_charger (s : State) : s.otherEdge.charger = s.charger := by
  simp only [State.otherEdge]
  repeat' split
  all_goals simp
@[simp] theorem otherEdge_peers (s : State) : s.otherEdge.peers = s.peers := by
  simp only [State.otherEdge]
  repeat' split
  all_goals simp
@[simp] theorem otherEdge_station (s : State) : s.otherEdge.station = s.station := by
  simp only [State.otherEdge]
  repeat' split
  all_goals simp
@[simp] theorem otherEdge_start (s : State) : s.otherEdge.start = s.start := by
  simp only [State.otherEdge]
  repeat' split
  all_goals simp
@[simp] theorem otherEdge_fault (s : State) : s.otherEdge.fault = s.fault := by
  simp only [State.otherEdge]
  repeat' split
  all_goals simp
@[simp] theorem otherEdge_policy (s : State) : s.otherEdge.policy = s.policy := by
  simp only [State.otherEdge]
  repeat' split
  all_goals simp
@[simp] theorem otherEdge_pins (s : State) : s.otherEdge.pins = s.pins := by
  simp only [State.otherEdge]
  repeat' split
  all_goals simp

@[simp] theorem requestSweepIf_pending (b : Bool) (s : State) : (s.requestSweepIf b).pending = s.pending := by
  simp only [State.requestSweepIf]
  repeat' split
  all_goals simp
@[simp] theorem requestSweepIf_clock (b : Bool) (s : State) : (s.requestSweepIf b).clock = s.clock := by
  simp only [State.requestSweepIf]
  repeat' split
  all_goals simp
@[simp] theorem requestSweepIf_gauge (b : Bool) (s : State) : (s.requestSweepIf b).gauge = s.gauge := by
  simp only [State.requestSweepIf]
  repeat' split
  all_goals simp
@[simp] theorem requestSweepIf_accrued (b : Bool) (s : State) : (s.requestSweepIf b).accrued = s.accrued := by
  simp only [State.requestSweepIf]
  repeat' split
  all_goals simp
@[simp] theorem requestSweepIf_apply (b : Bool) (s : State) : (s.requestSweepIf b).apply = s.apply := by
  simp only [State.requestSweepIf]
  repeat' split
  all_goals simp
@[simp] theorem requestSweepIf_port (b : Bool) (s : State) : (s.requestSweepIf b).port = s.port := by
  simp only [State.requestSweepIf]
  repeat' split
  all_goals simp
@[simp] theorem requestSweepIf_charger (b : Bool) (s : State) : (s.requestSweepIf b).charger = s.charger := by
  simp only [State.requestSweepIf]
  repeat' split
  all_goals simp
@[simp] theorem requestSweepIf_line (b : Bool) (s : State) : (s.requestSweepIf b).line = s.line := by
  simp only [State.requestSweepIf]
  repeat' split
  all_goals simp
@[simp] theorem requestSweepIf_peers (b : Bool) (s : State) : (s.requestSweepIf b).peers = s.peers := by
  simp only [State.requestSweepIf]
  repeat' split
  all_goals simp
@[simp] theorem requestSweepIf_station (b : Bool) (s : State) : (s.requestSweepIf b).station = s.station := by
  simp only [State.requestSweepIf]
  repeat' split
  all_goals simp
@[simp] theorem requestSweepIf_start (b : Bool) (s : State) : (s.requestSweepIf b).start = s.start := by
  simp only [State.requestSweepIf]
  repeat' split
  all_goals simp
@[simp] theorem requestSweepIf_fault (b : Bool) (s : State) : (s.requestSweepIf b).fault = s.fault := by
  simp only [State.requestSweepIf]
  repeat' split
  all_goals simp
@[simp] theorem requestSweepIf_policy (b : Bool) (s : State) : (s.requestSweepIf b).policy = s.policy := by
  simp only [State.requestSweepIf]
  repeat' split
  all_goals simp
@[simp] theorem requestSweepIf_pins (b : Bool) (s : State) : (s.requestSweepIf b).pins = s.pins := by
  simp only [State.requestSweepIf]
  repeat' split
  all_goals simp

@[simp] theorem handDraw_pending (s : State) : s.handDraw.pending = s.pending := by
  simp only [State.handDraw]
  repeat' split
  all_goals simp
@[simp] theorem handDraw_clock (s : State) : s.handDraw.clock = s.clock := by
  simp only [State.handDraw]
  repeat' split
  all_goals simp
@[simp] theorem handDraw_round (s : State) : s.handDraw.round = s.round := by
  simp only [State.handDraw]
  repeat' split
  all_goals simp
@[simp] theorem handDraw_gauge (s : State) : s.handDraw.gauge = s.gauge := by
  simp only [State.handDraw]
  repeat' split
  all_goals simp
@[simp] theorem handDraw_accrued (s : State) : s.handDraw.accrued = s.accrued := by
  simp only [State.handDraw]
  repeat' split
  all_goals simp
@[simp] theorem handDraw_hinge (s : State) : s.handDraw.hinge = s.hinge := by
  simp only [State.handDraw]
  repeat' split
  all_goals simp
@[simp] theorem handDraw_charger (s : State) : s.handDraw.charger = s.charger := by
  simp only [State.handDraw]
  repeat' split
  all_goals simp
@[simp] theorem handDraw_line (s : State) : s.handDraw.line = s.line := by
  simp only [State.handDraw]
  repeat' split
  all_goals simp
@[simp] theorem handDraw_peers (s : State) : s.handDraw.peers = s.peers := by
  simp only [State.handDraw]
  repeat' split
  all_goals simp
@[simp] theorem handDraw_station (s : State) : s.handDraw.station = s.station := by
  simp only [State.handDraw]
  repeat' split
  all_goals simp
@[simp] theorem handDraw_start (s : State) : s.handDraw.start = s.start := by
  simp only [State.handDraw]
  repeat' split
  all_goals simp
@[simp] theorem handDraw_fault (s : State) : s.handDraw.fault = s.fault := by
  simp only [State.handDraw]
  repeat' split
  all_goals simp
@[simp] theorem handDraw_policy (s : State) : s.handDraw.policy = s.policy := by
  simp only [State.handDraw]
  repeat' split
  all_goals simp
@[simp] theorem handDraw_pins (s : State) : s.handDraw.pins = s.pins := by
  simp only [State.handDraw]
  repeat' split
  all_goals simp

@[simp] theorem handCharge_pending (s : State) : s.handCharge.pending = s.pending := by
  simp only [State.handCharge]
  repeat' split
  all_goals simp
@[simp] theorem handCharge_clock (s : State) : s.handCharge.clock = s.clock := by
  simp only [State.handCharge]
  repeat' split
  all_goals simp
@[simp] theorem handCharge_round (s : State) : s.handCharge.round = s.round := by
  simp only [State.handCharge]
  repeat' split
  all_goals simp
@[simp] theorem handCharge_gauge (s : State) : s.handCharge.gauge = s.gauge := by
  simp only [State.handCharge]
  repeat' split
  all_goals simp
@[simp] theorem handCharge_accrued (s : State) : s.handCharge.accrued = s.accrued := by
  simp only [State.handCharge]
  repeat' split
  all_goals simp
@[simp] theorem handCharge_hinge (s : State) : s.handCharge.hinge = s.hinge := by
  simp only [State.handCharge]
  repeat' split
  all_goals simp
@[simp] theorem handCharge_port (s : State) : s.handCharge.port = s.port := by
  simp only [State.handCharge]
  repeat' split
  all_goals simp
@[simp] theorem handCharge_line (s : State) : s.handCharge.line = s.line := by
  simp only [State.handCharge]
  repeat' split
  all_goals simp
@[simp] theorem handCharge_peers (s : State) : s.handCharge.peers = s.peers := by
  simp only [State.handCharge]
  repeat' split
  all_goals simp
@[simp] theorem handCharge_station (s : State) : s.handCharge.station = s.station := by
  simp only [State.handCharge]
  repeat' split
  all_goals simp
@[simp] theorem handCharge_start (s : State) : s.handCharge.start = s.start := by
  simp only [State.handCharge]
  repeat' split
  all_goals simp
@[simp] theorem handCharge_fault (s : State) : s.handCharge.fault = s.fault := by
  simp only [State.handCharge]
  repeat' split
  all_goals simp
@[simp] theorem handCharge_policy (s : State) : s.handCharge.policy = s.policy := by
  simp only [State.handCharge]
  repeat' split
  all_goals simp
@[simp] theorem handCharge_pins (s : State) : s.handCharge.pins = s.pins := by
  simp only [State.handCharge]
  repeat' split
  all_goals simp

@[simp] theorem handLink_pending (s : State) : s.handLink.pending = s.pending := by
  simp only [State.handLink]
  repeat' split
  all_goals simp
@[simp] theorem handLink_clock (s : State) : s.handLink.clock = s.clock := by
  simp only [State.handLink]
  repeat' split
  all_goals simp
@[simp] theorem handLink_round (s : State) : s.handLink.round = s.round := by
  simp only [State.handLink]
  repeat' split
  all_goals simp
@[simp] theorem handLink_gauge (s : State) : s.handLink.gauge = s.gauge := by
  simp only [State.handLink]
  repeat' split
  all_goals simp
@[simp] theorem handLink_accrued (s : State) : s.handLink.accrued = s.accrued := by
  simp only [State.handLink]
  repeat' split
  all_goals simp
@[simp] theorem handLink_port (s : State) : s.handLink.port = s.port := by
  simp only [State.handLink]
  repeat' split
  all_goals simp
@[simp] theorem handLink_charger (s : State) : s.handLink.charger = s.charger := by
  simp only [State.handLink]
  repeat' split
  all_goals simp
@[simp] theorem handLink_line (s : State) : s.handLink.line = s.line := by
  simp only [State.handLink]
  repeat' split
  all_goals simp
@[simp] theorem handLink_peers (s : State) : s.handLink.peers = s.peers := by
  simp only [State.handLink]
  repeat' split
  all_goals simp
@[simp] theorem handLink_station (s : State) : s.handLink.station = s.station := by
  simp only [State.handLink]
  repeat' split
  all_goals simp
@[simp] theorem handLink_start (s : State) : s.handLink.start = s.start := by
  simp only [State.handLink]
  repeat' split
  all_goals simp
@[simp] theorem handLink_fault (s : State) : s.handLink.fault = s.fault := by
  simp only [State.handLink]
  repeat' split
  all_goals simp
@[simp] theorem handLink_policy (s : State) : s.handLink.policy = s.policy := by
  simp only [State.handLink]
  repeat' split
  all_goals simp
@[simp] theorem handLink_pins (s : State) : s.handLink.pins = s.pins := by
  simp only [State.handLink]
  repeat' split
  all_goals simp

@[simp] theorem setDraw_pending (g : Nat) (s : State) : (s.setDraw g).pending = s.pending := by
  simp only [State.setDraw]
  repeat' split
  all_goals simp
@[simp] theorem setDraw_clock (g : Nat) (s : State) : (s.setDraw g).clock = s.clock := by
  simp only [State.setDraw]
  repeat' split
  all_goals simp
@[simp] theorem setDraw_round (g : Nat) (s : State) : (s.setDraw g).round = s.round := by
  simp only [State.setDraw]
  repeat' split
  all_goals simp
@[simp] theorem setDraw_gauge (g : Nat) (s : State) : (s.setDraw g).gauge = s.gauge := by
  simp only [State.setDraw]
  repeat' split
  all_goals simp
@[simp] theorem setDraw_accrued (g : Nat) (s : State) : (s.setDraw g).accrued = s.accrued := by
  simp only [State.setDraw]
  repeat' split
  all_goals simp
@[simp] theorem setDraw_hinge (g : Nat) (s : State) : (s.setDraw g).hinge = s.hinge := by
  simp only [State.setDraw]
  repeat' split
  all_goals simp
@[simp] theorem setDraw_charger (g : Nat) (s : State) : (s.setDraw g).charger = s.charger := by
  simp only [State.setDraw]
  repeat' split
  all_goals simp
@[simp] theorem setDraw_line (g : Nat) (s : State) : (s.setDraw g).line = s.line := by
  simp only [State.setDraw]
  repeat' split
  all_goals simp
@[simp] theorem setDraw_peers (g : Nat) (s : State) : (s.setDraw g).peers = s.peers := by
  simp only [State.setDraw]
  repeat' split
  all_goals simp
@[simp] theorem setDraw_station (g : Nat) (s : State) : (s.setDraw g).station = s.station := by
  simp only [State.setDraw]
  repeat' split
  all_goals simp
@[simp] theorem setDraw_start (g : Nat) (s : State) : (s.setDraw g).start = s.start := by
  simp only [State.setDraw]
  repeat' split
  all_goals simp
@[simp] theorem setDraw_fault (g : Nat) (s : State) : (s.setDraw g).fault = s.fault := by
  simp only [State.setDraw]
  repeat' split
  all_goals simp
@[simp] theorem setDraw_policy (g : Nat) (s : State) : (s.setDraw g).policy = s.policy := by
  simp only [State.setDraw]
  repeat' split
  all_goals simp
@[simp] theorem setDraw_pins (g : Nat) (s : State) : (s.setDraw g).pins = s.pins := by
  simp only [State.setDraw]
  repeat' split
  all_goals simp

@[simp] theorem setCharge_pending (c : Nat) (s : State) : (s.setCharge c).pending = s.pending := by
  simp only [State.setCharge]
  repeat' split
  all_goals simp
@[simp] theorem setCharge_clock (c : Nat) (s : State) : (s.setCharge c).clock = s.clock := by
  simp only [State.setCharge]
  repeat' split
  all_goals simp
@[simp] theorem setCharge_round (c : Nat) (s : State) : (s.setCharge c).round = s.round := by
  simp only [State.setCharge]
  repeat' split
  all_goals simp
@[simp] theorem setCharge_gauge (c : Nat) (s : State) : (s.setCharge c).gauge = s.gauge := by
  simp only [State.setCharge]
  repeat' split
  all_goals simp
@[simp] theorem setCharge_accrued (c : Nat) (s : State) : (s.setCharge c).accrued = s.accrued := by
  simp only [State.setCharge]
  repeat' split
  all_goals simp
@[simp] theorem setCharge_hinge (c : Nat) (s : State) : (s.setCharge c).hinge = s.hinge := by
  simp only [State.setCharge]
  repeat' split
  all_goals simp
@[simp] theorem setCharge_port (c : Nat) (s : State) : (s.setCharge c).port = s.port := by
  simp only [State.setCharge]
  repeat' split
  all_goals simp
@[simp] theorem setCharge_line (c : Nat) (s : State) : (s.setCharge c).line = s.line := by
  simp only [State.setCharge]
  repeat' split
  all_goals simp
@[simp] theorem setCharge_peers (c : Nat) (s : State) : (s.setCharge c).peers = s.peers := by
  simp only [State.setCharge]
  repeat' split
  all_goals simp
@[simp] theorem setCharge_station (c : Nat) (s : State) : (s.setCharge c).station = s.station := by
  simp only [State.setCharge]
  repeat' split
  all_goals simp
@[simp] theorem setCharge_start (c : Nat) (s : State) : (s.setCharge c).start = s.start := by
  simp only [State.setCharge]
  repeat' split
  all_goals simp
@[simp] theorem setCharge_fault (c : Nat) (s : State) : (s.setCharge c).fault = s.fault := by
  simp only [State.setCharge]
  repeat' split
  all_goals simp
@[simp] theorem setCharge_policy (c : Nat) (s : State) : (s.setCharge c).policy = s.policy := by
  simp only [State.setCharge]
  repeat' split
  all_goals simp
@[simp] theorem setCharge_pins (c : Nat) (s : State) : (s.setCharge c).pins = s.pins := by
  simp only [State.setCharge]
  repeat' split
  all_goals simp

@[simp] theorem setLink_pending (x : Int) (s : State) : (s.setLink x).pending = s.pending := by
  simp only [State.setLink]
  repeat' split
  all_goals simp
@[simp] theorem setLink_clock (x : Int) (s : State) : (s.setLink x).clock = s.clock := by
  simp only [State.setLink]
  repeat' split
  all_goals simp
@[simp] theorem setLink_round (x : Int) (s : State) : (s.setLink x).round = s.round := by
  simp only [State.setLink]
  repeat' split
  all_goals simp
@[simp] theorem setLink_gauge (x : Int) (s : State) : (s.setLink x).gauge = s.gauge := by
  simp only [State.setLink]
  repeat' split
  all_goals simp
@[simp] theorem setLink_accrued (x : Int) (s : State) : (s.setLink x).accrued = s.accrued := by
  simp only [State.setLink]
  repeat' split
  all_goals simp
@[simp] theorem setLink_port (x : Int) (s : State) : (s.setLink x).port = s.port := by
  simp only [State.setLink]
  repeat' split
  all_goals simp
@[simp] theorem setLink_charger (x : Int) (s : State) : (s.setLink x).charger = s.charger := by
  simp only [State.setLink]
  repeat' split
  all_goals simp
@[simp] theorem setLink_line (x : Int) (s : State) : (s.setLink x).line = s.line := by
  simp only [State.setLink]
  repeat' split
  all_goals simp
@[simp] theorem setLink_peers (x : Int) (s : State) : (s.setLink x).peers = s.peers := by
  simp only [State.setLink]
  repeat' split
  all_goals simp
@[simp] theorem setLink_station (x : Int) (s : State) : (s.setLink x).station = s.station := by
  simp only [State.setLink]
  repeat' split
  all_goals simp
@[simp] theorem setLink_start (x : Int) (s : State) : (s.setLink x).start = s.start := by
  simp only [State.setLink]
  repeat' split
  all_goals simp
@[simp] theorem setLink_fault (x : Int) (s : State) : (s.setLink x).fault = s.fault := by
  simp only [State.setLink]
  repeat' split
  all_goals simp
@[simp] theorem setLink_policy (x : Int) (s : State) : (s.setLink x).policy = s.policy := by
  simp only [State.setLink]
  repeat' split
  all_goals simp
@[simp] theorem setLink_pins (x : Int) (s : State) : (s.setLink x).pins = s.pins := by
  simp only [State.setLink]
  repeat' split
  all_goals simp

@[simp] theorem replaceProposal_pending (r : Setting) (code : Nat) (s : State) : (s.replaceProposal r code).pending = s.pending := by
  simp only [State.replaceProposal]
  repeat' split
  all_goals simp
@[simp] theorem replaceProposal_clock (r : Setting) (code : Nat) (s : State) : (s.replaceProposal r code).clock = s.clock := by
  simp only [State.replaceProposal]
  repeat' split
  all_goals simp
@[simp] theorem replaceProposal_round (r : Setting) (code : Nat) (s : State) : (s.replaceProposal r code).round = s.round := by
  simp only [State.replaceProposal]
  repeat' split
  all_goals simp
@[simp] theorem replaceProposal_gauge (r : Setting) (code : Nat) (s : State) : (s.replaceProposal r code).gauge = s.gauge := by
  simp only [State.replaceProposal]
  repeat' split
  all_goals simp
@[simp] theorem replaceProposal_accrued (r : Setting) (code : Nat) (s : State) : (s.replaceProposal r code).accrued = s.accrued := by
  simp only [State.replaceProposal]
  repeat' split
  all_goals simp
@[simp] theorem replaceProposal_line (r : Setting) (code : Nat) (s : State) : (s.replaceProposal r code).line = s.line := by
  simp only [State.replaceProposal]
  repeat' split
  all_goals simp
@[simp] theorem replaceProposal_peers (r : Setting) (code : Nat) (s : State) : (s.replaceProposal r code).peers = s.peers := by
  simp only [State.replaceProposal]
  repeat' split
  all_goals simp
@[simp] theorem replaceProposal_station (r : Setting) (code : Nat) (s : State) : (s.replaceProposal r code).station = s.station := by
  simp only [State.replaceProposal]
  repeat' split
  all_goals simp
@[simp] theorem replaceProposal_start (r : Setting) (code : Nat) (s : State) : (s.replaceProposal r code).start = s.start := by
  simp only [State.replaceProposal]
  repeat' split
  all_goals simp
@[simp] theorem replaceProposal_fault (r : Setting) (code : Nat) (s : State) : (s.replaceProposal r code).fault = s.fault := by
  simp only [State.replaceProposal]
  repeat' split
  all_goals simp
@[simp] theorem replaceProposal_policy (r : Setting) (code : Nat) (s : State) : (s.replaceProposal r code).policy = s.policy := by
  simp only [State.replaceProposal]
  repeat' split
  all_goals simp
@[simp] theorem replaceProposal_pins (r : Setting) (code : Nat) (s : State) : (s.replaceProposal r code).pins = s.pins := by
  simp only [State.replaceProposal]
  repeat' split
  all_goals simp

@[simp] theorem judgeLink_pending (s : State) : s.judgeLink.pending = s.pending := by
  simp only [State.judgeLink]
  repeat' split
  all_goals simp
@[simp] theorem judgeLink_clock (s : State) : s.judgeLink.clock = s.clock := by
  simp only [State.judgeLink]
  repeat' split
  all_goals simp
@[simp] theorem judgeLink_round (s : State) : s.judgeLink.round = s.round := by
  simp only [State.judgeLink]
  repeat' split
  all_goals simp
@[simp] theorem judgeLink_gauge (s : State) : s.judgeLink.gauge = s.gauge := by
  simp only [State.judgeLink]
  repeat' split
  all_goals simp
@[simp] theorem judgeLink_accrued (s : State) : s.judgeLink.accrued = s.accrued := by
  simp only [State.judgeLink]
  repeat' split
  all_goals simp
@[simp] theorem judgeLink_port (s : State) : s.judgeLink.port = s.port := by
  simp only [State.judgeLink]
  repeat' split
  all_goals simp
@[simp] theorem judgeLink_charger (s : State) : s.judgeLink.charger = s.charger := by
  simp only [State.judgeLink]
  repeat' split
  all_goals simp
@[simp] theorem judgeLink_line (s : State) : s.judgeLink.line = s.line := by
  simp only [State.judgeLink]
  repeat' split
  all_goals simp
@[simp] theorem judgeLink_peers (s : State) : s.judgeLink.peers = s.peers := by
  simp only [State.judgeLink]
  repeat' split
  all_goals simp
@[simp] theorem judgeLink_station (s : State) : s.judgeLink.station = s.station := by
  simp only [State.judgeLink]
  repeat' split
  all_goals simp
@[simp] theorem judgeLink_start (s : State) : s.judgeLink.start = s.start := by
  simp only [State.judgeLink]
  repeat' split
  all_goals simp
@[simp] theorem judgeLink_fault (s : State) : s.judgeLink.fault = s.fault := by
  simp only [State.judgeLink]
  repeat' split
  all_goals simp
@[simp] theorem judgeLink_policy (s : State) : s.judgeLink.policy = s.policy := by
  simp only [State.judgeLink]
  repeat' split
  all_goals simp
@[simp] theorem judgeLink_pins (s : State) : s.judgeLink.pins = s.pins := by
  simp only [State.judgeLink]
  repeat' split
  all_goals simp

@[simp] theorem become_pending (st : StationState) (s : State) : (s.become st).pending = s.pending := by
  simp only [State.become]
  repeat' split
  all_goals simp
@[simp] theorem become_clock (st : StationState) (s : State) : (s.become st).clock = s.clock := by
  simp only [State.become]
  repeat' split
  all_goals simp
@[simp] theorem become_round (st : StationState) (s : State) : (s.become st).round = s.round := by
  simp only [State.become]
  repeat' split
  all_goals simp
@[simp] theorem become_gauge (st : StationState) (s : State) : (s.become st).gauge = s.gauge := by
  simp only [State.become]
  repeat' split
  all_goals simp
@[simp] theorem become_accrued (st : StationState) (s : State) : (s.become st).accrued = s.accrued := by
  simp only [State.become]
  repeat' split
  all_goals simp
@[simp] theorem become_apply (st : StationState) (s : State) : (s.become st).apply = s.apply := by
  simp only [State.become]
  repeat' split
  all_goals simp
@[simp] theorem become_hinge (st : StationState) (s : State) : (s.become st).hinge = s.hinge := by
  simp only [State.become]
  repeat' split
  all_goals simp
@[simp] theorem become_port (st : StationState) (s : State) : (s.become st).port = s.port := by
  simp only [State.become]
  repeat' split
  all_goals simp
@[simp] theorem become_charger (st : StationState) (s : State) : (s.become st).charger = s.charger := by
  simp only [State.become]
  repeat' split
  all_goals simp
@[simp] theorem become_line (st : StationState) (s : State) : (s.become st).line = s.line := by
  simp only [State.become]
  repeat' split
  all_goals simp
@[simp] theorem become_peers (st : StationState) (s : State) : (s.become st).peers = s.peers := by
  simp only [State.become]
  repeat' split
  all_goals simp
@[simp] theorem become_start (st : StationState) (s : State) : (s.become st).start = s.start := by
  simp only [State.become]
  repeat' split
  all_goals simp
@[simp] theorem become_fault (st : StationState) (s : State) : (s.become st).fault = s.fault := by
  simp only [State.become]
  repeat' split
  all_goals simp
@[simp] theorem become_policy (st : StationState) (s : State) : (s.become st).policy = s.policy := by
  simp only [State.become]
  repeat' split
  all_goals simp
@[simp] theorem become_pins (st : StationState) (s : State) : (s.become st).pins = s.pins := by
  simp only [State.become]
  repeat' split
  all_goals simp

@[simp] theorem enterPaired_pending (s : State) : s.enterPaired.pending = s.pending := by
  simp only [State.enterPaired]
  repeat' split
  all_goals simp
@[simp] theorem enterPaired_clock (s : State) : s.enterPaired.clock = s.clock := by
  simp only [State.enterPaired]
  repeat' split
  all_goals simp
@[simp] theorem enterPaired_gauge (s : State) : s.enterPaired.gauge = s.gauge := by
  simp only [State.enterPaired]
  repeat' split
  all_goals simp
@[simp] theorem enterPaired_accrued (s : State) : s.enterPaired.accrued = s.accrued := by
  simp only [State.enterPaired]
  repeat' split
  all_goals simp
@[simp] theorem enterPaired_apply (s : State) : s.enterPaired.apply = s.apply := by
  simp only [State.enterPaired]
  repeat' split
  all_goals simp
@[simp] theorem enterPaired_port (s : State) : s.enterPaired.port = s.port := by
  simp only [State.enterPaired]
  repeat' split
  all_goals simp
@[simp] theorem enterPaired_charger (s : State) : s.enterPaired.charger = s.charger := by
  simp only [State.enterPaired]
  repeat' split
  all_goals simp
@[simp] theorem enterPaired_line (s : State) : s.enterPaired.line = s.line := by
  simp only [State.enterPaired]
  repeat' split
  all_goals simp
@[simp] theorem enterPaired_peers (s : State) : s.enterPaired.peers = s.peers := by
  simp only [State.enterPaired]
  repeat' split
  all_goals simp
@[simp] theorem enterPaired_start (s : State) : s.enterPaired.start = s.start := by
  simp only [State.enterPaired]
  repeat' split
  all_goals simp
@[simp] theorem enterPaired_fault (s : State) : s.enterPaired.fault = s.fault := by
  simp only [State.enterPaired]
  repeat' split
  all_goals simp
@[simp] theorem enterPaired_policy (s : State) : s.enterPaired.policy = s.policy := by
  simp only [State.enterPaired]
  repeat' split
  all_goals simp
@[simp] theorem enterPaired_pins (s : State) : s.enterPaired.pins = s.pins := by
  simp only [State.enterPaired]
  repeat' split
  all_goals simp

@[simp] theorem leavePaired_pending (s : State) : s.leavePaired.pending = s.pending := by
  simp only [State.leavePaired]
  repeat' split
  all_goals simp
@[simp] theorem leavePaired_clock (s : State) : s.leavePaired.clock = s.clock := by
  simp only [State.leavePaired]
  repeat' split
  all_goals simp
@[simp] theorem leavePaired_gauge (s : State) : s.leavePaired.gauge = s.gauge := by
  simp only [State.leavePaired]
  repeat' split
  all_goals simp
@[simp] theorem leavePaired_accrued (s : State) : s.leavePaired.accrued = s.accrued := by
  simp only [State.leavePaired]
  repeat' split
  all_goals simp
@[simp] theorem leavePaired_port (s : State) : s.leavePaired.port = s.port := by
  simp only [State.leavePaired]
  repeat' split
  all_goals simp
@[simp] theorem leavePaired_charger (s : State) : s.leavePaired.charger = s.charger := by
  simp only [State.leavePaired]
  repeat' split
  all_goals simp
@[simp] theorem leavePaired_line (s : State) : s.leavePaired.line = s.line := by
  simp only [State.leavePaired]
  repeat' split
  all_goals simp
@[simp] theorem leavePaired_peers (s : State) : s.leavePaired.peers = s.peers := by
  simp only [State.leavePaired]
  repeat' split
  all_goals simp
@[simp] theorem leavePaired_start (s : State) : s.leavePaired.start = s.start := by
  simp only [State.leavePaired]
  repeat' split
  all_goals simp
@[simp] theorem leavePaired_fault (s : State) : s.leavePaired.fault = s.fault := by
  simp only [State.leavePaired]
  repeat' split
  all_goals simp
@[simp] theorem leavePaired_policy (s : State) : s.leavePaired.policy = s.policy := by
  simp only [State.leavePaired]
  repeat' split
  all_goals simp
@[simp] theorem leavePaired_pins (s : State) : s.leavePaired.pins = s.pins := by
  simp only [State.leavePaired]
  repeat' split
  all_goals simp

@[simp] theorem judgeCrowd_pending (s : State) : s.judgeCrowd.pending = s.pending := by
  simp only [State.judgeCrowd]
  repeat' split
  all_goals simp
@[simp] theorem judgeCrowd_clock (s : State) : s.judgeCrowd.clock = s.clock := by
  simp only [State.judgeCrowd]
  repeat' split
  all_goals simp
@[simp] theorem judgeCrowd_round (s : State) : s.judgeCrowd.round = s.round := by
  simp only [State.judgeCrowd]
  repeat' split
  all_goals simp
@[simp] theorem judgeCrowd_gauge (s : State) : s.judgeCrowd.gauge = s.gauge := by
  simp only [State.judgeCrowd]
  repeat' split
  all_goals simp
@[simp] theorem judgeCrowd_accrued (s : State) : s.judgeCrowd.accrued = s.accrued := by
  simp only [State.judgeCrowd]
  repeat' split
  all_goals simp
@[simp] theorem judgeCrowd_apply (s : State) : s.judgeCrowd.apply = s.apply := by
  simp only [State.judgeCrowd]
  repeat' split
  all_goals simp
@[simp] theorem judgeCrowd_hinge (s : State) : s.judgeCrowd.hinge = s.hinge := by
  simp only [State.judgeCrowd]
  repeat' split
  all_goals simp
@[simp] theorem judgeCrowd_port (s : State) : s.judgeCrowd.port = s.port := by
  simp only [State.judgeCrowd]
  repeat' split
  all_goals simp
@[simp] theorem judgeCrowd_charger (s : State) : s.judgeCrowd.charger = s.charger := by
  simp only [State.judgeCrowd]
  repeat' split
  all_goals simp
@[simp] theorem judgeCrowd_peers (s : State) : s.judgeCrowd.peers = s.peers := by
  simp only [State.judgeCrowd]
  repeat' split
  all_goals simp
@[simp] theorem judgeCrowd_start (s : State) : s.judgeCrowd.start = s.start := by
  simp only [State.judgeCrowd]
  repeat' split
  all_goals simp
@[simp] theorem judgeCrowd_policy (s : State) : s.judgeCrowd.policy = s.policy := by
  simp only [State.judgeCrowd]
  repeat' split
  all_goals simp
@[simp] theorem judgeCrowd_pins (s : State) : s.judgeCrowd.pins = s.pins := by
  simp only [State.judgeCrowd]
  repeat' split
  all_goals simp

@[simp] theorem judgePartner_pending (s : State) : s.judgePartner.pending = s.pending := by
  simp only [State.judgePartner]
  repeat' split
  all_goals simp
@[simp] theorem judgePartner_clock (s : State) : s.judgePartner.clock = s.clock := by
  simp only [State.judgePartner]
  repeat' split
  all_goals simp
@[simp] theorem judgePartner_gauge (s : State) : s.judgePartner.gauge = s.gauge := by
  simp only [State.judgePartner]
  repeat' split
  all_goals simp
@[simp] theorem judgePartner_accrued (s : State) : s.judgePartner.accrued = s.accrued := by
  simp only [State.judgePartner]
  repeat' split
  all_goals simp
@[simp] theorem judgePartner_port (s : State) : s.judgePartner.port = s.port := by
  simp only [State.judgePartner]
  repeat' split
  all_goals simp
@[simp] theorem judgePartner_charger (s : State) : s.judgePartner.charger = s.charger := by
  simp only [State.judgePartner]
  repeat' split
  all_goals simp
@[simp] theorem judgePartner_peers (s : State) : s.judgePartner.peers = s.peers := by
  simp only [State.judgePartner]
  repeat' split
  all_goals simp
@[simp] theorem judgePartner_start (s : State) : s.judgePartner.start = s.start := by
  simp only [State.judgePartner]
  repeat' split
  all_goals simp
@[simp] theorem judgePartner_policy (s : State) : s.judgePartner.policy = s.policy := by
  simp only [State.judgePartner]
  repeat' split
  all_goals simp
@[simp] theorem judgePartner_pins (s : State) : s.judgePartner.pins = s.pins := by
  simp only [State.judgePartner]
  repeat' split
  all_goals simp

@[simp] theorem enterLatched_pending (s : State) : s.enterLatched.pending = s.pending := by
  simp only [State.enterLatched]
  repeat' split
  all_goals simp
@[simp] theorem enterLatched_clock (s : State) : s.enterLatched.clock = s.clock := by
  simp only [State.enterLatched]
  repeat' split
  all_goals simp
@[simp] theorem enterLatched_gauge (s : State) : s.enterLatched.gauge = s.gauge := by
  simp only [State.enterLatched]
  repeat' split
  all_goals simp
@[simp] theorem enterLatched_accrued (s : State) : s.enterLatched.accrued = s.accrued := by
  simp only [State.enterLatched]
  repeat' split
  all_goals simp
@[simp] theorem enterLatched_line (s : State) : s.enterLatched.line = s.line := by
  simp only [State.enterLatched]
  repeat' split
  all_goals simp
@[simp] theorem enterLatched_peers (s : State) : s.enterLatched.peers = s.peers := by
  simp only [State.enterLatched]
  repeat' split
  all_goals simp
@[simp] theorem enterLatched_start (s : State) : s.enterLatched.start = s.start := by
  simp only [State.enterLatched]
  repeat' split
  all_goals simp
@[simp] theorem enterLatched_policy (s : State) : s.enterLatched.policy = s.policy := by
  simp only [State.enterLatched]
  repeat' split
  all_goals simp
@[simp] theorem enterLatched_pins (s : State) : s.enterLatched.pins = s.pins := by
  simp only [State.enterLatched]
  repeat' split
  all_goals simp

@[simp] theorem haltingEffect_pending (s : State) : s.haltingEffect.pending = s.pending := by
  simp only [State.haltingEffect]
  repeat' split
  all_goals simp
@[simp] theorem haltingEffect_clock (s : State) : s.haltingEffect.clock = s.clock := by
  simp only [State.haltingEffect]
  repeat' split
  all_goals simp
@[simp] theorem haltingEffect_gauge (s : State) : s.haltingEffect.gauge = s.gauge := by
  simp only [State.haltingEffect]
  repeat' split
  all_goals simp
@[simp] theorem haltingEffect_accrued (s : State) : s.haltingEffect.accrued = s.accrued := by
  simp only [State.haltingEffect]
  repeat' split
  all_goals simp
@[simp] theorem haltingEffect_line (s : State) : s.haltingEffect.line = s.line := by
  simp only [State.haltingEffect]
  repeat' split
  all_goals simp
@[simp] theorem haltingEffect_peers (s : State) : s.haltingEffect.peers = s.peers := by
  simp only [State.haltingEffect]
  repeat' split
  all_goals simp
@[simp] theorem haltingEffect_start (s : State) : s.haltingEffect.start = s.start := by
  simp only [State.haltingEffect]
  repeat' split
  all_goals simp
@[simp] theorem haltingEffect_policy (s : State) : s.haltingEffect.policy = s.policy := by
  simp only [State.haltingEffect]
  repeat' split
  all_goals simp
@[simp] theorem haltingEffect_pins (s : State) : s.haltingEffect.pins = s.pins := by
  simp only [State.haltingEffect]
  repeat' split
  all_goals simp

@[simp] theorem raise_pending (k : Kind) (s : State) : (s.raise k).pending = s.pending := by
  simp only [State.raise]
  repeat' split
  all_goals simp
@[simp] theorem raise_clock (k : Kind) (s : State) : (s.raise k).clock = s.clock := by
  simp only [State.raise]
  repeat' split
  all_goals simp
@[simp] theorem raise_gauge (k : Kind) (s : State) : (s.raise k).gauge = s.gauge := by
  simp only [State.raise]
  repeat' split
  all_goals simp
@[simp] theorem raise_accrued (k : Kind) (s : State) : (s.raise k).accrued = s.accrued := by
  simp only [State.raise]
  repeat' split
  all_goals simp
@[simp] theorem raise_peers (k : Kind) (s : State) : (s.raise k).peers = s.peers := by
  simp only [State.raise]
  repeat' split
  all_goals simp
@[simp] theorem raise_start (k : Kind) (s : State) : (s.raise k).start = s.start := by
  simp only [State.raise]
  repeat' split
  all_goals simp
@[simp] theorem raise_policy (k : Kind) (s : State) : (s.raise k).policy = s.policy := by
  simp only [State.raise]
  repeat' split
  all_goals simp
@[simp] theorem raise_pins (k : Kind) (s : State) : (s.raise k).pins = s.pins := by
  simp only [State.raise]
  repeat' split
  all_goals simp

@[simp] theorem raiseAll_pending (ks : List Kind) (s : State) : (s.raiseAll ks).pending = s.pending := by
  induction ks generalizing s with
  | nil => rfl
  | cons k ks ih => simpa [State.raiseAll] using ih (s.raise k)
@[simp] theorem raiseAll_clock (ks : List Kind) (s : State) : (s.raiseAll ks).clock = s.clock := by
  induction ks generalizing s with
  | nil => rfl
  | cons k ks ih => simpa [State.raiseAll] using ih (s.raise k)
@[simp] theorem raiseAll_gauge (ks : List Kind) (s : State) : (s.raiseAll ks).gauge = s.gauge := by
  induction ks generalizing s with
  | nil => rfl
  | cons k ks ih => simpa [State.raiseAll] using ih (s.raise k)
@[simp] theorem raiseAll_accrued (ks : List Kind) (s : State) : (s.raiseAll ks).accrued = s.accrued := by
  induction ks generalizing s with
  | nil => rfl
  | cons k ks ih => simpa [State.raiseAll] using ih (s.raise k)
@[simp] theorem raiseAll_peers (ks : List Kind) (s : State) : (s.raiseAll ks).peers = s.peers := by
  induction ks generalizing s with
  | nil => rfl
  | cons k ks ih => simpa [State.raiseAll] using ih (s.raise k)
@[simp] theorem raiseAll_start (ks : List Kind) (s : State) : (s.raiseAll ks).start = s.start := by
  induction ks generalizing s with
  | nil => rfl
  | cons k ks ih => simpa [State.raiseAll] using ih (s.raise k)
@[simp] theorem raiseAll_policy (ks : List Kind) (s : State) : (s.raiseAll ks).policy = s.policy := by
  induction ks generalizing s with
  | nil => rfl
  | cons k ks ih => simpa [State.raiseAll] using ih (s.raise k)
@[simp] theorem raiseAll_pins (ks : List Kind) (s : State) : (s.raiseAll ks).pins = s.pins := by
  induction ks generalizing s with
  | nil => rfl
  | cons k ks ih => simpa [State.raiseAll] using ih (s.raise k)

@[simp] theorem enterMute_pending (s : State) : s.enterMute.pending = s.pending := by
  simp only [State.enterMute]
  repeat' split
  all_goals simp
@[simp] theorem enterMute_clock (s : State) : s.enterMute.clock = s.clock := by
  simp only [State.enterMute]
  repeat' split
  all_goals simp
@[simp] theorem enterMute_gauge (s : State) : s.enterMute.gauge = s.gauge := by
  simp only [State.enterMute]
  repeat' split
  all_goals simp
@[simp] theorem enterMute_accrued (s : State) : s.enterMute.accrued = s.accrued := by
  simp only [State.enterMute]
  repeat' split
  all_goals simp
@[simp] theorem enterMute_port (s : State) : s.enterMute.port = s.port := by
  simp only [State.enterMute]
  repeat' split
  all_goals simp
@[simp] theorem enterMute_charger (s : State) : s.enterMute.charger = s.charger := by
  simp only [State.enterMute]
  repeat' split
  all_goals simp
@[simp] theorem enterMute_peers (s : State) : s.enterMute.peers = s.peers := by
  simp only [State.enterMute]
  repeat' split
  all_goals simp
@[simp] theorem enterMute_start (s : State) : s.enterMute.start = s.start := by
  simp only [State.enterMute]
  repeat' split
  all_goals simp
@[simp] theorem enterMute_fault (s : State) : s.enterMute.fault = s.fault := by
  simp only [State.enterMute]
  repeat' split
  all_goals simp
@[simp] theorem enterMute_policy (s : State) : s.enterMute.policy = s.policy := by
  simp only [State.enterMute]
  repeat' split
  all_goals simp
@[simp] theorem enterMute_pins (s : State) : s.enterMute.pins = s.pins := by
  simp only [State.enterMute]
  repeat' split
  all_goals simp

@[simp] theorem failFinal_pending (s : State) : s.failFinal.pending = s.pending := by
  simp only [State.failFinal]
  repeat' split
  all_goals simp
@[simp] theorem failFinal_clock (s : State) : s.failFinal.clock = s.clock := by
  simp only [State.failFinal]
  repeat' split
  all_goals simp
@[simp] theorem failFinal_gauge (s : State) : s.failFinal.gauge = s.gauge := by
  simp only [State.failFinal]
  repeat' split
  all_goals simp
@[simp] theorem failFinal_accrued (s : State) : s.failFinal.accrued = s.accrued := by
  simp only [State.failFinal]
  repeat' split
  all_goals simp
@[simp] theorem failFinal_apply (s : State) : s.failFinal.apply = s.apply := by
  simp only [State.failFinal]
  repeat' split
  all_goals simp
@[simp] theorem failFinal_hinge (s : State) : s.failFinal.hinge = s.hinge := by
  simp only [State.failFinal]
  repeat' split
  all_goals simp
@[simp] theorem failFinal_port (s : State) : s.failFinal.port = s.port := by
  simp only [State.failFinal]
  repeat' split
  all_goals simp
@[simp] theorem failFinal_charger (s : State) : s.failFinal.charger = s.charger := by
  simp only [State.failFinal]
  repeat' split
  all_goals simp
@[simp] theorem failFinal_peers (s : State) : s.failFinal.peers = s.peers := by
  simp only [State.failFinal]
  repeat' split
  all_goals simp
@[simp] theorem failFinal_station (s : State) : s.failFinal.station = s.station := by
  simp only [State.failFinal]
  repeat' split
  all_goals simp
@[simp] theorem failFinal_start (s : State) : s.failFinal.start = s.start := by
  simp only [State.failFinal]
  repeat' split
  all_goals simp
@[simp] theorem failFinal_fault (s : State) : s.failFinal.fault = s.fault := by
  simp only [State.failFinal]
  repeat' split
  all_goals simp
@[simp] theorem failFinal_policy (s : State) : s.failFinal.policy = s.policy := by
  simp only [State.failFinal]
  repeat' split
  all_goals simp
@[simp] theorem failFinal_pins (s : State) : s.failFinal.pins = s.pins := by
  simp only [State.failFinal]
  repeat' split
  all_goals simp

@[simp] theorem switchOff_pending (vIn : Nat) (s : State) : (s.switchOff vIn).pending = s.pending := by
  simp only [State.switchOff]
  repeat' split
  all_goals simp
@[simp] theorem switchOff_clock (vIn : Nat) (s : State) : (s.switchOff vIn).clock = s.clock := by
  simp only [State.switchOff]
  repeat' split
  all_goals simp
@[simp] theorem switchOff_gauge (vIn : Nat) (s : State) : (s.switchOff vIn).gauge = s.gauge := by
  simp only [State.switchOff]
  repeat' split
  all_goals simp
@[simp] theorem switchOff_accrued (vIn : Nat) (s : State) : (s.switchOff vIn).accrued = s.accrued := by
  simp only [State.switchOff]
  repeat' split
  all_goals simp
@[simp] theorem switchOff_hinge (vIn : Nat) (s : State) : (s.switchOff vIn).hinge = s.hinge := by
  simp only [State.switchOff]
  repeat' split
  all_goals simp
@[simp] theorem switchOff_charger (vIn : Nat) (s : State) : (s.switchOff vIn).charger = s.charger := by
  simp only [State.switchOff]
  repeat' split
  all_goals simp
@[simp] theorem switchOff_peers (vIn : Nat) (s : State) : (s.switchOff vIn).peers = s.peers := by
  simp only [State.switchOff]
  repeat' split
  all_goals simp
@[simp] theorem switchOff_start (vIn : Nat) (s : State) : (s.switchOff vIn).start = s.start := by
  simp only [State.switchOff]
  repeat' split
  all_goals simp
@[simp] theorem switchOff_policy (vIn : Nat) (s : State) : (s.switchOff vIn).policy = s.policy := by
  simp only [State.switchOff]
  repeat' split
  all_goals simp
@[simp] theorem switchOff_pins (vIn : Nat) (s : State) : (s.switchOff vIn).pins = s.pins := by
  simp only [State.switchOff]
  repeat' split
  all_goals simp

@[simp] theorem settleShelf_pending (vIn : Nat) (s : State) : (s.settleShelf vIn).pending = s.pending := by
  simp only [State.settleShelf]
  repeat' split
  all_goals simp
@[simp] theorem settleShelf_clock (vIn : Nat) (s : State) : (s.settleShelf vIn).clock = s.clock := by
  simp only [State.settleShelf]
  repeat' split
  all_goals simp
@[simp] theorem settleShelf_gauge (vIn : Nat) (s : State) : (s.settleShelf vIn).gauge = s.gauge := by
  simp only [State.settleShelf]
  repeat' split
  all_goals simp
@[simp] theorem settleShelf_accrued (vIn : Nat) (s : State) : (s.settleShelf vIn).accrued = s.accrued := by
  simp only [State.settleShelf]
  repeat' split
  all_goals simp
@[simp] theorem settleShelf_hinge (vIn : Nat) (s : State) : (s.settleShelf vIn).hinge = s.hinge := by
  simp only [State.settleShelf]
  repeat' split
  all_goals simp
@[simp] theorem settleShelf_charger (vIn : Nat) (s : State) : (s.settleShelf vIn).charger = s.charger := by
  simp only [State.settleShelf]
  repeat' split
  all_goals simp
@[simp] theorem settleShelf_peers (vIn : Nat) (s : State) : (s.settleShelf vIn).peers = s.peers := by
  simp only [State.settleShelf]
  repeat' split
  all_goals simp
@[simp] theorem settleShelf_start (vIn : Nat) (s : State) : (s.settleShelf vIn).start = s.start := by
  simp only [State.settleShelf]
  repeat' split
  all_goals simp
@[simp] theorem settleShelf_policy (vIn : Nat) (s : State) : (s.settleShelf vIn).policy = s.policy := by
  simp only [State.settleShelf]
  repeat' split
  all_goals simp
@[simp] theorem settleShelf_pins (vIn : Nat) (s : State) : (s.settleShelf vIn).pins = s.pins := by
  simp only [State.settleShelf]
  repeat' split
  all_goals simp

@[simp] theorem advance_pending (ms : Nat) (s : State) : (s.advance ms).pending = s.pending := by
  simp only [State.advance]
  repeat' split
  all_goals simp
@[simp] theorem advance_gauge (ms : Nat) (s : State) : (s.advance ms).gauge = s.gauge := by
  simp only [State.advance]
  repeat' split
  all_goals simp
@[simp] theorem advance_accrued (ms : Nat) (s : State) : (s.advance ms).accrued = s.accrued := by
  simp only [State.advance]
  repeat' split
  all_goals simp
@[simp] theorem advance_apply (ms : Nat) (s : State) : (s.advance ms).apply = s.apply := by
  simp only [State.advance]
  repeat' split
  all_goals simp
@[simp] theorem advance_line (ms : Nat) (s : State) : (s.advance ms).line = s.line := by
  simp only [State.advance]
  repeat' split
  all_goals simp
@[simp] theorem advance_peers (ms : Nat) (s : State) : (s.advance ms).peers = s.peers := by
  simp only [State.advance]
  repeat' split
  all_goals simp
@[simp] theorem advance_fault (ms : Nat) (s : State) : (s.advance ms).fault = s.fault := by
  simp only [State.advance]
  repeat' split
  all_goals simp
@[simp] theorem advance_policy (ms : Nat) (s : State) : (s.advance ms).policy = s.policy := by
  simp only [State.advance]
  repeat' split
  all_goals simp
@[simp] theorem advance_pins (ms : Nat) (s : State) : (s.advance ms).pins = s.pins := by
  simp only [State.advance]
  repeat' split
  all_goals simp

@[simp] theorem recordL_pending (f : Figures) (m : Marks) (s : State) : (s.recordL f m).pending = s.pending := by
  simp only [State.recordL]
  repeat' split
  all_goals simp
@[simp] theorem recordL_clock (f : Figures) (m : Marks) (s : State) : (s.recordL f m).clock = s.clock := by
  simp only [State.recordL]
  repeat' split
  all_goals simp
@[simp] theorem recordL_gauge (f : Figures) (m : Marks) (s : State) : (s.recordL f m).gauge = s.gauge := by
  simp only [State.recordL]
  repeat' split
  all_goals simp
@[simp] theorem recordL_accrued (f : Figures) (m : Marks) (s : State) : (s.recordL f m).accrued = s.accrued := by
  simp only [State.recordL]
  repeat' split
  all_goals simp
@[simp] theorem recordL_apply (f : Figures) (m : Marks) (s : State) : (s.recordL f m).apply = s.apply := by
  simp only [State.recordL]
  repeat' split
  all_goals simp
@[simp] theorem recordL_hinge (f : Figures) (m : Marks) (s : State) : (s.recordL f m).hinge = s.hinge := by
  simp only [State.recordL]
  repeat' split
  all_goals simp
@[simp] theorem recordL_port (f : Figures) (m : Marks) (s : State) : (s.recordL f m).port = s.port := by
  simp only [State.recordL]
  repeat' split
  all_goals simp
@[simp] theorem recordL_charger (f : Figures) (m : Marks) (s : State) : (s.recordL f m).charger = s.charger := by
  simp only [State.recordL]
  repeat' split
  all_goals simp
@[simp] theorem recordL_line (f : Figures) (m : Marks) (s : State) : (s.recordL f m).line = s.line := by
  simp only [State.recordL]
  repeat' split
  all_goals simp
@[simp] theorem recordL_peers (f : Figures) (m : Marks) (s : State) : (s.recordL f m).peers = s.peers := by
  simp only [State.recordL]
  repeat' split
  all_goals simp
@[simp] theorem recordL_station (f : Figures) (m : Marks) (s : State) : (s.recordL f m).station = s.station := by
  simp only [State.recordL]
  repeat' split
  all_goals simp
@[simp] theorem recordL_start (f : Figures) (m : Marks) (s : State) : (s.recordL f m).start = s.start := by
  simp only [State.recordL]
  repeat' split
  all_goals simp
@[simp] theorem recordL_fault (f : Figures) (m : Marks) (s : State) : (s.recordL f m).fault = s.fault := by
  simp only [State.recordL]
  repeat' split
  all_goals simp
@[simp] theorem recordL_policy (f : Figures) (m : Marks) (s : State) : (s.recordL f m).policy = s.policy := by
  simp only [State.recordL]
  repeat' split
  all_goals simp
@[simp] theorem recordL_pins (f : Figures) (m : Marks) (s : State) : (s.recordL f m).pins = s.pins := by
  simp only [State.recordL]
  repeat' split
  all_goals simp

@[simp] theorem accrue_pending (f : OutcomeFlags) (s : State) : (s.accrue f).pending = s.pending := by
  simp only [State.accrue]
  repeat' split
  all_goals simp
@[simp] theorem accrue_clock (f : OutcomeFlags) (s : State) : (s.accrue f).clock = s.clock := by
  simp only [State.accrue]
  repeat' split
  all_goals simp
@[simp] theorem accrue_round (f : OutcomeFlags) (s : State) : (s.accrue f).round = s.round := by
  simp only [State.accrue]
  repeat' split
  all_goals simp
@[simp] theorem accrue_gauge (f : OutcomeFlags) (s : State) : (s.accrue f).gauge = s.gauge := by
  simp only [State.accrue]
  repeat' split
  all_goals simp
@[simp] theorem accrue_apply (f : OutcomeFlags) (s : State) : (s.accrue f).apply = s.apply := by
  simp only [State.accrue]
  repeat' split
  all_goals simp
@[simp] theorem accrue_hinge (f : OutcomeFlags) (s : State) : (s.accrue f).hinge = s.hinge := by
  simp only [State.accrue]
  repeat' split
  all_goals simp
@[simp] theorem accrue_port (f : OutcomeFlags) (s : State) : (s.accrue f).port = s.port := by
  simp only [State.accrue]
  repeat' split
  all_goals simp
@[simp] theorem accrue_charger (f : OutcomeFlags) (s : State) : (s.accrue f).charger = s.charger := by
  simp only [State.accrue]
  repeat' split
  all_goals simp
@[simp] theorem accrue_line (f : OutcomeFlags) (s : State) : (s.accrue f).line = s.line := by
  simp only [State.accrue]
  repeat' split
  all_goals simp
@[simp] theorem accrue_peers (f : OutcomeFlags) (s : State) : (s.accrue f).peers = s.peers := by
  simp only [State.accrue]
  repeat' split
  all_goals simp
@[simp] theorem accrue_station (f : OutcomeFlags) (s : State) : (s.accrue f).station = s.station := by
  simp only [State.accrue]
  repeat' split
  all_goals simp
@[simp] theorem accrue_start (f : OutcomeFlags) (s : State) : (s.accrue f).start = s.start := by
  simp only [State.accrue]
  repeat' split
  all_goals simp
@[simp] theorem accrue_fault (f : OutcomeFlags) (s : State) : (s.accrue f).fault = s.fault := by
  simp only [State.accrue]
  repeat' split
  all_goals simp
@[simp] theorem accrue_policy (f : OutcomeFlags) (s : State) : (s.accrue f).policy = s.policy := by
  simp only [State.accrue]
  repeat' split
  all_goals simp
@[simp] theorem accrue_pins (f : OutcomeFlags) (s : State) : (s.accrue f).pins = s.pins := by
  simp only [State.accrue]
  repeat' split
  all_goals simp

@[simp] theorem recordComposed_pending (c : StateContents) (s : State) : (s.recordComposed c).pending = s.pending := by
  simp only [State.recordComposed]
  repeat' split
  all_goals simp
@[simp] theorem recordComposed_clock (c : StateContents) (s : State) : (s.recordComposed c).clock = s.clock := by
  simp only [State.recordComposed]
  repeat' split
  all_goals simp
@[simp] theorem recordComposed_gauge (c : StateContents) (s : State) : (s.recordComposed c).gauge = s.gauge := by
  simp only [State.recordComposed]
  repeat' split
  all_goals simp
@[simp] theorem recordComposed_accrued (c : StateContents) (s : State) : (s.recordComposed c).accrued = s.accrued := by
  simp only [State.recordComposed]
  repeat' split
  all_goals simp
@[simp] theorem recordComposed_apply (c : StateContents) (s : State) : (s.recordComposed c).apply = s.apply := by
  simp only [State.recordComposed]
  repeat' split
  all_goals simp
@[simp] theorem recordComposed_hinge (c : StateContents) (s : State) : (s.recordComposed c).hinge = s.hinge := by
  simp only [State.recordComposed]
  repeat' split
  all_goals simp
@[simp] theorem recordComposed_port (c : StateContents) (s : State) : (s.recordComposed c).port = s.port := by
  simp only [State.recordComposed]
  repeat' split
  all_goals simp
@[simp] theorem recordComposed_charger (c : StateContents) (s : State) : (s.recordComposed c).charger = s.charger := by
  simp only [State.recordComposed]
  repeat' split
  all_goals simp
@[simp] theorem recordComposed_line (c : StateContents) (s : State) : (s.recordComposed c).line = s.line := by
  simp only [State.recordComposed]
  repeat' split
  all_goals simp
@[simp] theorem recordComposed_peers (c : StateContents) (s : State) : (s.recordComposed c).peers = s.peers := by
  simp only [State.recordComposed]
  repeat' split
  all_goals simp
@[simp] theorem recordComposed_station (c : StateContents) (s : State) : (s.recordComposed c).station = s.station := by
  simp only [State.recordComposed]
  repeat' split
  all_goals simp
@[simp] theorem recordComposed_start (c : StateContents) (s : State) : (s.recordComposed c).start = s.start := by
  simp only [State.recordComposed]
  repeat' split
  all_goals simp
@[simp] theorem recordComposed_fault (c : StateContents) (s : State) : (s.recordComposed c).fault = s.fault := by
  simp only [State.recordComposed]
  repeat' split
  all_goals simp
@[simp] theorem recordComposed_policy (c : StateContents) (s : State) : (s.recordComposed c).policy = s.policy := by
  simp only [State.recordComposed]
  repeat' split
  all_goals simp
@[simp] theorem recordComposed_pins (c : StateContents) (s : State) : (s.recordComposed c).pins = s.pins := by
  simp only [State.recordComposed]
  repeat' split
  all_goals simp

@[simp] theorem agePeers_pending (s : State) : s.agePeers.pending = s.pending := by
  simp only [State.agePeers]
  repeat' split
  all_goals simp
@[simp] theorem agePeers_clock (s : State) : s.agePeers.clock = s.clock := by
  simp only [State.agePeers]
  repeat' split
  all_goals simp
@[simp] theorem agePeers_gauge (s : State) : s.agePeers.gauge = s.gauge := by
  simp only [State.agePeers]
  repeat' split
  all_goals simp
@[simp] theorem agePeers_accrued (s : State) : s.agePeers.accrued = s.accrued := by
  simp only [State.agePeers]
  repeat' split
  all_goals simp
@[simp] theorem agePeers_port (s : State) : s.agePeers.port = s.port := by
  simp only [State.agePeers]
  repeat' split
  all_goals simp
@[simp] theorem agePeers_charger (s : State) : s.agePeers.charger = s.charger := by
  simp only [State.agePeers]
  repeat' split
  all_goals simp
@[simp] theorem agePeers_start (s : State) : s.agePeers.start = s.start := by
  simp only [State.agePeers]
  repeat' split
  all_goals simp
@[simp] theorem agePeers_policy (s : State) : s.agePeers.policy = s.policy := by
  simp only [State.agePeers]
  repeat' split
  all_goals simp
@[simp] theorem agePeers_pins (s : State) : s.agePeers.pins = s.pins := by
  simp only [State.agePeers]
  repeat' split
  all_goals simp

@[simp] theorem hingeRound_pending (s : State) : s.hingeRound.pending = s.pending := by
  simp only [State.hingeRound]
  repeat' split
  all_goals simp
@[simp] theorem hingeRound_clock (s : State) : s.hingeRound.clock = s.clock := by
  simp only [State.hingeRound]
  repeat' split
  all_goals simp
@[simp] theorem hingeRound_round (s : State) : s.hingeRound.round = s.round := by
  simp only [State.hingeRound]
  repeat' split
  all_goals simp
@[simp] theorem hingeRound_gauge (s : State) : s.hingeRound.gauge = s.gauge := by
  simp only [State.hingeRound]
  repeat' split
  all_goals simp
@[simp] theorem hingeRound_accrued (s : State) : s.hingeRound.accrued = s.accrued := by
  simp only [State.hingeRound]
  repeat' split
  all_goals simp
@[simp] theorem hingeRound_port (s : State) : s.hingeRound.port = s.port := by
  simp only [State.hingeRound]
  repeat' split
  all_goals simp
@[simp] theorem hingeRound_charger (s : State) : s.hingeRound.charger = s.charger := by
  simp only [State.hingeRound]
  repeat' split
  all_goals simp
@[simp] theorem hingeRound_line (s : State) : s.hingeRound.line = s.line := by
  simp only [State.hingeRound]
  repeat' split
  all_goals simp
@[simp] theorem hingeRound_peers (s : State) : s.hingeRound.peers = s.peers := by
  simp only [State.hingeRound]
  repeat' split
  all_goals simp
@[simp] theorem hingeRound_station (s : State) : s.hingeRound.station = s.station := by
  simp only [State.hingeRound]
  repeat' split
  all_goals simp
@[simp] theorem hingeRound_start (s : State) : s.hingeRound.start = s.start := by
  simp only [State.hingeRound]
  repeat' split
  all_goals simp
@[simp] theorem hingeRound_fault (s : State) : s.hingeRound.fault = s.fault := by
  simp only [State.hingeRound]
  repeat' split
  all_goals simp
@[simp] theorem hingeRound_policy (s : State) : s.hingeRound.policy = s.policy := by
  simp only [State.hingeRound]
  repeat' split
  all_goals simp
@[simp] theorem hingeRound_pins (s : State) : s.hingeRound.pins = s.pins := by
  simp only [State.hingeRound]
  repeat' split
  all_goals simp

@[simp] theorem beginSweepIfNone_pending (s : State) : s.beginSweepIfNone.pending = s.pending := by
  simp only [State.beginSweepIfNone]
  repeat' split
  all_goals simp
@[simp] theorem beginSweepIfNone_clock (s : State) : s.beginSweepIfNone.clock = s.clock := by
  simp only [State.beginSweepIfNone]
  repeat' split
  all_goals simp
@[simp] theorem beginSweepIfNone_gauge (s : State) : s.beginSweepIfNone.gauge = s.gauge := by
  simp only [State.beginSweepIfNone]
  repeat' split
  all_goals simp
@[simp] theorem beginSweepIfNone_accrued (s : State) : s.beginSweepIfNone.accrued = s.accrued := by
  simp only [State.beginSweepIfNone]
  repeat' split
  all_goals simp
@[simp] theorem beginSweepIfNone_apply (s : State) : s.beginSweepIfNone.apply = s.apply := by
  simp only [State.beginSweepIfNone]
  repeat' split
  all_goals simp
@[simp] theorem beginSweepIfNone_port (s : State) : s.beginSweepIfNone.port = s.port := by
  simp only [State.beginSweepIfNone]
  repeat' split
  all_goals simp
@[simp] theorem beginSweepIfNone_charger (s : State) : s.beginSweepIfNone.charger = s.charger := by
  simp only [State.beginSweepIfNone]
  repeat' split
  all_goals simp
@[simp] theorem beginSweepIfNone_line (s : State) : s.beginSweepIfNone.line = s.line := by
  simp only [State.beginSweepIfNone]
  repeat' split
  all_goals simp
@[simp] theorem beginSweepIfNone_peers (s : State) : s.beginSweepIfNone.peers = s.peers := by
  simp only [State.beginSweepIfNone]
  repeat' split
  all_goals simp
@[simp] theorem beginSweepIfNone_station (s : State) : s.beginSweepIfNone.station = s.station := by
  simp only [State.beginSweepIfNone]
  repeat' split
  all_goals simp
@[simp] theorem beginSweepIfNone_start (s : State) : s.beginSweepIfNone.start = s.start := by
  simp only [State.beginSweepIfNone]
  repeat' split
  all_goals simp
@[simp] theorem beginSweepIfNone_fault (s : State) : s.beginSweepIfNone.fault = s.fault := by
  simp only [State.beginSweepIfNone]
  repeat' split
  all_goals simp
@[simp] theorem beginSweepIfNone_policy (s : State) : s.beginSweepIfNone.policy = s.policy := by
  simp only [State.beginSweepIfNone]
  repeat' split
  all_goals simp
@[simp] theorem beginSweepIfNone_pins (s : State) : s.beginSweepIfNone.pins = s.pins := by
  simp only [State.beginSweepIfNone]
  repeat' split
  all_goals simp

@[simp] theorem ownRound_pending (s : State) : s.ownRound.pending = s.pending := by
  simp only [State.ownRound]
  repeat' split
  all_goals simp
@[simp] theorem ownRound_clock (s : State) : s.ownRound.clock = s.clock := by
  simp only [State.ownRound]
  repeat' split
  all_goals simp
@[simp] theorem ownRound_gauge (s : State) : s.ownRound.gauge = s.gauge := by
  simp only [State.ownRound]
  repeat' split
  all_goals simp
@[simp] theorem ownRound_accrued (s : State) : s.ownRound.accrued = s.accrued := by
  simp only [State.ownRound]
  repeat' split
  all_goals simp
@[simp] theorem ownRound_port (s : State) : s.ownRound.port = s.port := by
  simp only [State.ownRound]
  repeat' split
  all_goals simp
@[simp] theorem ownRound_charger (s : State) : s.ownRound.charger = s.charger := by
  simp only [State.ownRound]
  repeat' split
  all_goals simp
@[simp] theorem ownRound_start (s : State) : s.ownRound.start = s.start := by
  simp only [State.ownRound]
  repeat' split
  all_goals simp
@[simp] theorem ownRound_policy (s : State) : s.ownRound.policy = s.policy := by
  simp only [State.ownRound]
  repeat' split
  all_goals simp
@[simp] theorem ownRound_pins (s : State) : s.ownRound.pins = s.pins := by
  simp only [State.ownRound]
  repeat' split
  all_goals simp

@[simp] theorem foldMotion_pending (s : State) : s.foldMotion.pending = s.pending := by
  simp only [State.foldMotion]
  repeat' split
  all_goals simp
@[simp] theorem foldMotion_clock (s : State) : s.foldMotion.clock = s.clock := by
  simp only [State.foldMotion]
  repeat' split
  all_goals simp
@[simp] theorem foldMotion_gauge (s : State) : s.foldMotion.gauge = s.gauge := by
  simp only [State.foldMotion]
  repeat' split
  all_goals simp
@[simp] theorem foldMotion_accrued (s : State) : s.foldMotion.accrued = s.accrued := by
  simp only [State.foldMotion]
  repeat' split
  all_goals simp
@[simp] theorem foldMotion_apply (s : State) : s.foldMotion.apply = s.apply := by
  simp only [State.foldMotion]
  repeat' split
  all_goals simp
@[simp] theorem foldMotion_port (s : State) : s.foldMotion.port = s.port := by
  simp only [State.foldMotion]
  repeat' split
  all_goals simp
@[simp] theorem foldMotion_charger (s : State) : s.foldMotion.charger = s.charger := by
  simp only [State.foldMotion]
  repeat' split
  all_goals simp
@[simp] theorem foldMotion_line (s : State) : s.foldMotion.line = s.line := by
  simp only [State.foldMotion]
  repeat' split
  all_goals simp
@[simp] theorem foldMotion_peers (s : State) : s.foldMotion.peers = s.peers := by
  simp only [State.foldMotion]
  repeat' split
  all_goals simp
@[simp] theorem foldMotion_station (s : State) : s.foldMotion.station = s.station := by
  simp only [State.foldMotion]
  repeat' split
  all_goals simp
@[simp] theorem foldMotion_start (s : State) : s.foldMotion.start = s.start := by
  simp only [State.foldMotion]
  repeat' split
  all_goals simp
@[simp] theorem foldMotion_fault (s : State) : s.foldMotion.fault = s.fault := by
  simp only [State.foldMotion]
  repeat' split
  all_goals simp
@[simp] theorem foldMotion_policy (s : State) : s.foldMotion.policy = s.policy := by
  simp only [State.foldMotion]
  repeat' split
  all_goals simp
@[simp] theorem foldMotion_pins (s : State) : s.foldMotion.pins = s.pins := by
  simp only [State.foldMotion]
  repeat' split
  all_goals simp

@[simp] theorem takeReadings_pending (r : Readings) (s : State) : (s.takeReadings r).pending = s.pending := by
  simp only [State.takeReadings]
  repeat' split
  all_goals simp
@[simp] theorem takeReadings_clock (r : Readings) (s : State) : (s.takeReadings r).clock = s.clock := by
  simp only [State.takeReadings]
  repeat' split
  all_goals simp
@[simp] theorem takeReadings_gauge (r : Readings) (s : State) : (s.takeReadings r).gauge = s.gauge := by
  simp only [State.takeReadings]
  repeat' split
  all_goals simp
@[simp] theorem takeReadings_accrued (r : Readings) (s : State) : (s.takeReadings r).accrued = s.accrued := by
  simp only [State.takeReadings]
  repeat' split
  all_goals simp
@[simp] theorem takeReadings_apply (r : Readings) (s : State) : (s.takeReadings r).apply = s.apply := by
  simp only [State.takeReadings]
  repeat' split
  all_goals simp
@[simp] theorem takeReadings_hinge (r : Readings) (s : State) : (s.takeReadings r).hinge = s.hinge := by
  simp only [State.takeReadings]
  repeat' split
  all_goals simp
@[simp] theorem takeReadings_port (r : Readings) (s : State) : (s.takeReadings r).port = s.port := by
  simp only [State.takeReadings]
  repeat' split
  all_goals simp
@[simp] theorem takeReadings_charger (r : Readings) (s : State) : (s.takeReadings r).charger = s.charger := by
  simp only [State.takeReadings]
  repeat' split
  all_goals simp
@[simp] theorem takeReadings_line (r : Readings) (s : State) : (s.takeReadings r).line = s.line := by
  simp only [State.takeReadings]
  repeat' split
  all_goals simp
@[simp] theorem takeReadings_peers (r : Readings) (s : State) : (s.takeReadings r).peers = s.peers := by
  simp only [State.takeReadings]
  repeat' split
  all_goals simp
@[simp] theorem takeReadings_station (r : Readings) (s : State) : (s.takeReadings r).station = s.station := by
  simp only [State.takeReadings]
  repeat' split
  all_goals simp
@[simp] theorem takeReadings_start (r : Readings) (s : State) : (s.takeReadings r).start = s.start := by
  simp only [State.takeReadings]
  repeat' split
  all_goals simp
@[simp] theorem takeReadings_fault (r : Readings) (s : State) : (s.takeReadings r).fault = s.fault := by
  simp only [State.takeReadings]
  repeat' split
  all_goals simp
@[simp] theorem takeReadings_policy (r : Readings) (s : State) : (s.takeReadings r).policy = s.policy := by
  simp only [State.takeReadings]
  repeat' split
  all_goals simp
@[simp] theorem takeReadings_pins (r : Readings) (s : State) : (s.takeReadings r).pins = s.pins := by
  simp only [State.takeReadings]
  repeat' split
  all_goals simp

@[simp] theorem sweepGauge_pending (m : Nat) (s : State) : (s.sweepGauge m).pending = s.pending := by
  simp only [State.sweepGauge]
  repeat' split
  all_goals simp
@[simp] theorem sweepGauge_clock (m : Nat) (s : State) : (s.sweepGauge m).clock = s.clock := by
  simp only [State.sweepGauge]
  repeat' split
  all_goals simp
@[simp] theorem sweepGauge_round (m : Nat) (s : State) : (s.sweepGauge m).round = s.round := by
  simp only [State.sweepGauge]
  repeat' split
  all_goals simp
@[simp] theorem sweepGauge_accrued (m : Nat) (s : State) : (s.sweepGauge m).accrued = s.accrued := by
  simp only [State.sweepGauge]
  repeat' split
  all_goals simp
@[simp] theorem sweepGauge_apply (m : Nat) (s : State) : (s.sweepGauge m).apply = s.apply := by
  simp only [State.sweepGauge]
  repeat' split
  all_goals simp
@[simp] theorem sweepGauge_hinge (m : Nat) (s : State) : (s.sweepGauge m).hinge = s.hinge := by
  simp only [State.sweepGauge]
  repeat' split
  all_goals simp
@[simp] theorem sweepGauge_port (m : Nat) (s : State) : (s.sweepGauge m).port = s.port := by
  simp only [State.sweepGauge]
  repeat' split
  all_goals simp
@[simp] theorem sweepGauge_charger (m : Nat) (s : State) : (s.sweepGauge m).charger = s.charger := by
  simp only [State.sweepGauge]
  repeat' split
  all_goals simp
@[simp] theorem sweepGauge_line (m : Nat) (s : State) : (s.sweepGauge m).line = s.line := by
  simp only [State.sweepGauge]
  repeat' split
  all_goals simp
@[simp] theorem sweepGauge_peers (m : Nat) (s : State) : (s.sweepGauge m).peers = s.peers := by
  simp only [State.sweepGauge]
  repeat' split
  all_goals simp
@[simp] theorem sweepGauge_station (m : Nat) (s : State) : (s.sweepGauge m).station = s.station := by
  simp only [State.sweepGauge]
  repeat' split
  all_goals simp
@[simp] theorem sweepGauge_start (m : Nat) (s : State) : (s.sweepGauge m).start = s.start := by
  simp only [State.sweepGauge]
  repeat' split
  all_goals simp
@[simp] theorem sweepGauge_policy (m : Nat) (s : State) : (s.sweepGauge m).policy = s.policy := by
  simp only [State.sweepGauge]
  repeat' split
  all_goals simp
@[simp] theorem sweepGauge_pins (m : Nat) (s : State) : (s.sweepGauge m).pins = s.pins := by
  simp only [State.sweepGauge]
  repeat' split
  all_goals simp

@[simp] theorem gaugeFull_pending (s : State) : s.gaugeFull.pending = s.pending := by
  simp only [State.gaugeFull]
  repeat' split
  all_goals simp
@[simp] theorem gaugeFull_clock (s : State) : s.gaugeFull.clock = s.clock := by
  simp only [State.gaugeFull]
  repeat' split
  all_goals simp
@[simp] theorem gaugeFull_round (s : State) : s.gaugeFull.round = s.round := by
  simp only [State.gaugeFull]
  repeat' split
  all_goals simp
@[simp] theorem gaugeFull_accrued (s : State) : s.gaugeFull.accrued = s.accrued := by
  simp only [State.gaugeFull]
  repeat' split
  all_goals simp
@[simp] theorem gaugeFull_apply (s : State) : s.gaugeFull.apply = s.apply := by
  simp only [State.gaugeFull]
  repeat' split
  all_goals simp
@[simp] theorem gaugeFull_hinge (s : State) : s.gaugeFull.hinge = s.hinge := by
  simp only [State.gaugeFull]
  repeat' split
  all_goals simp
@[simp] theorem gaugeFull_port (s : State) : s.gaugeFull.port = s.port := by
  simp only [State.gaugeFull]
  repeat' split
  all_goals simp
@[simp] theorem gaugeFull_charger (s : State) : s.gaugeFull.charger = s.charger := by
  simp only [State.gaugeFull]
  repeat' split
  all_goals simp
@[simp] theorem gaugeFull_line (s : State) : s.gaugeFull.line = s.line := by
  simp only [State.gaugeFull]
  repeat' split
  all_goals simp
@[simp] theorem gaugeFull_peers (s : State) : s.gaugeFull.peers = s.peers := by
  simp only [State.gaugeFull]
  repeat' split
  all_goals simp
@[simp] theorem gaugeFull_station (s : State) : s.gaugeFull.station = s.station := by
  simp only [State.gaugeFull]
  repeat' split
  all_goals simp
@[simp] theorem gaugeFull_start (s : State) : s.gaugeFull.start = s.start := by
  simp only [State.gaugeFull]
  repeat' split
  all_goals simp
@[simp] theorem gaugeFull_policy (s : State) : s.gaugeFull.policy = s.policy := by
  simp only [State.gaugeFull]
  repeat' split
  all_goals simp
@[simp] theorem gaugeFull_pins (s : State) : s.gaugeFull.pins = s.pins := by
  simp only [State.gaugeFull]
  repeat' split
  all_goals simp

@[simp] theorem sweepCharger_fst_pending (t : Nat) (s : State) : (s.sweepCharger t).1.pending = s.pending := by
  simp only [State.sweepCharger]
  repeat' split
  all_goals simp
@[simp] theorem sweepCharger_fst_clock (t : Nat) (s : State) : (s.sweepCharger t).1.clock = s.clock := by
  simp only [State.sweepCharger]
  repeat' split
  all_goals simp
@[simp] theorem sweepCharger_fst_round (t : Nat) (s : State) : (s.sweepCharger t).1.round = s.round := by
  simp only [State.sweepCharger]
  repeat' split
  all_goals simp
@[simp] theorem sweepCharger_fst_accrued (t : Nat) (s : State) : (s.sweepCharger t).1.accrued = s.accrued := by
  simp only [State.sweepCharger]
  repeat' split
  all_goals simp
@[simp] theorem sweepCharger_fst_apply (t : Nat) (s : State) : (s.sweepCharger t).1.apply = s.apply := by
  simp only [State.sweepCharger]
  repeat' split
  all_goals simp
@[simp] theorem sweepCharger_fst_hinge (t : Nat) (s : State) : (s.sweepCharger t).1.hinge = s.hinge := by
  simp only [State.sweepCharger]
  repeat' split
  all_goals simp
@[simp] theorem sweepCharger_fst_port (t : Nat) (s : State) : (s.sweepCharger t).1.port = s.port := by
  simp only [State.sweepCharger]
  repeat' split
  all_goals simp
@[simp] theorem sweepCharger_fst_line (t : Nat) (s : State) : (s.sweepCharger t).1.line = s.line := by
  simp only [State.sweepCharger]
  repeat' split
  all_goals simp
@[simp] theorem sweepCharger_fst_peers (t : Nat) (s : State) : (s.sweepCharger t).1.peers = s.peers := by
  simp only [State.sweepCharger]
  repeat' split
  all_goals simp
@[simp] theorem sweepCharger_fst_station (t : Nat) (s : State) : (s.sweepCharger t).1.station = s.station := by
  simp only [State.sweepCharger]
  repeat' split
  all_goals simp
@[simp] theorem sweepCharger_fst_start (t : Nat) (s : State) : (s.sweepCharger t).1.start = s.start := by
  simp only [State.sweepCharger]
  repeat' split
  all_goals simp
@[simp] theorem sweepCharger_fst_policy (t : Nat) (s : State) : (s.sweepCharger t).1.policy = s.policy := by
  simp only [State.sweepCharger]
  repeat' split
  all_goals simp
@[simp] theorem sweepCharger_fst_pins (t : Nat) (s : State) : (s.sweepCharger t).1.pins = s.pins := by
  simp only [State.sweepCharger]
  repeat' split
  all_goals simp

@[simp] theorem sweepPort_pending (s : State) : s.sweepPort.pending = s.pending := by
  simp only [State.sweepPort]
  repeat' split
  all_goals simp
@[simp] theorem sweepPort_clock (s : State) : s.sweepPort.clock = s.clock := by
  simp only [State.sweepPort]
  repeat' split
  all_goals simp
@[simp] theorem sweepPort_gauge (s : State) : s.sweepPort.gauge = s.gauge := by
  simp only [State.sweepPort]
  repeat' split
  all_goals simp
@[simp] theorem sweepPort_accrued (s : State) : s.sweepPort.accrued = s.accrued := by
  simp only [State.sweepPort]
  repeat' split
  all_goals simp
@[simp] theorem sweepPort_apply (s : State) : s.sweepPort.apply = s.apply := by
  simp only [State.sweepPort]
  repeat' split
  all_goals simp
@[simp] theorem sweepPort_charger (s : State) : s.sweepPort.charger = s.charger := by
  simp only [State.sweepPort]
  repeat' split
  all_goals simp
@[simp] theorem sweepPort_line (s : State) : s.sweepPort.line = s.line := by
  simp only [State.sweepPort]
  repeat' split
  all_goals simp
@[simp] theorem sweepPort_peers (s : State) : s.sweepPort.peers = s.peers := by
  simp only [State.sweepPort]
  repeat' split
  all_goals simp
@[simp] theorem sweepPort_station (s : State) : s.sweepPort.station = s.station := by
  simp only [State.sweepPort]
  repeat' split
  all_goals simp
@[simp] theorem sweepPort_start (s : State) : s.sweepPort.start = s.start := by
  simp only [State.sweepPort]
  repeat' split
  all_goals simp
@[simp] theorem sweepPort_fault (s : State) : s.sweepPort.fault = s.fault := by
  simp only [State.sweepPort]
  repeat' split
  all_goals simp
@[simp] theorem sweepPort_policy (s : State) : s.sweepPort.policy = s.policy := by
  simp only [State.sweepPort]
  repeat' split
  all_goals simp
@[simp] theorem sweepPort_pins (s : State) : s.sweepPort.pins = s.pins := by
  simp only [State.sweepPort]
  repeat' split
  all_goals simp

@[simp] theorem sweepHinge_pending (s : State) : s.sweepHinge.pending = s.pending := by
  simp only [State.sweepHinge]
  repeat' split
  all_goals simp
@[simp] theorem sweepHinge_clock (s : State) : s.sweepHinge.clock = s.clock := by
  simp only [State.sweepHinge]
  repeat' split
  all_goals simp
@[simp] theorem sweepHinge_round (s : State) : s.sweepHinge.round = s.round := by
  simp only [State.sweepHinge]
  repeat' split
  all_goals simp
@[simp] theorem sweepHinge_gauge (s : State) : s.sweepHinge.gauge = s.gauge := by
  simp only [State.sweepHinge]
  repeat' split
  all_goals simp
@[simp] theorem sweepHinge_accrued (s : State) : s.sweepHinge.accrued = s.accrued := by
  simp only [State.sweepHinge]
  repeat' split
  all_goals simp
@[simp] theorem sweepHinge_port (s : State) : s.sweepHinge.port = s.port := by
  simp only [State.sweepHinge]
  repeat' split
  all_goals simp
@[simp] theorem sweepHinge_charger (s : State) : s.sweepHinge.charger = s.charger := by
  simp only [State.sweepHinge]
  repeat' split
  all_goals simp
@[simp] theorem sweepHinge_line (s : State) : s.sweepHinge.line = s.line := by
  simp only [State.sweepHinge]
  repeat' split
  all_goals simp
@[simp] theorem sweepHinge_peers (s : State) : s.sweepHinge.peers = s.peers := by
  simp only [State.sweepHinge]
  repeat' split
  all_goals simp
@[simp] theorem sweepHinge_station (s : State) : s.sweepHinge.station = s.station := by
  simp only [State.sweepHinge]
  repeat' split
  all_goals simp
@[simp] theorem sweepHinge_start (s : State) : s.sweepHinge.start = s.start := by
  simp only [State.sweepHinge]
  repeat' split
  all_goals simp
@[simp] theorem sweepHinge_policy (s : State) : s.sweepHinge.policy = s.policy := by
  simp only [State.sweepHinge]
  repeat' split
  all_goals simp
@[simp] theorem sweepHinge_pins (s : State) : s.sweepHinge.pins = s.pins := by
  simp only [State.sweepHinge]
  repeat' split
  all_goals simp

@[simp] theorem handAll_pending (s : State) : s.handAll.pending = s.pending := by
  simp only [State.handAll]
  repeat' split
  all_goals simp
@[simp] theorem handAll_clock (s : State) : s.handAll.clock = s.clock := by
  simp only [State.handAll]
  repeat' split
  all_goals simp
@[simp] theorem handAll_round (s : State) : s.handAll.round = s.round := by
  simp only [State.handAll]
  repeat' split
  all_goals simp
@[simp] theorem handAll_gauge (s : State) : s.handAll.gauge = s.gauge := by
  simp only [State.handAll]
  repeat' split
  all_goals simp
@[simp] theorem handAll_accrued (s : State) : s.handAll.accrued = s.accrued := by
  simp only [State.handAll]
  repeat' split
  all_goals simp
@[simp] theorem handAll_line (s : State) : s.handAll.line = s.line := by
  simp only [State.handAll]
  repeat' split
  all_goals simp
@[simp] theorem handAll_peers (s : State) : s.handAll.peers = s.peers := by
  simp only [State.handAll]
  repeat' split
  all_goals simp
@[simp] theorem handAll_station (s : State) : s.handAll.station = s.station := by
  simp only [State.handAll]
  repeat' split
  all_goals simp
@[simp] theorem handAll_start (s : State) : s.handAll.start = s.start := by
  simp only [State.handAll]
  repeat' split
  all_goals simp
@[simp] theorem handAll_fault (s : State) : s.handAll.fault = s.fault := by
  simp only [State.handAll]
  repeat' split
  all_goals simp
@[simp] theorem handAll_policy (s : State) : s.handAll.policy = s.policy := by
  simp only [State.handAll]
  repeat' split
  all_goals simp
@[simp] theorem handAll_pins (s : State) : s.handAll.pins = s.pins := by
  simp only [State.handAll]
  repeat' split
  all_goals simp

@[simp] theorem sweepCompose_pending (ph : Phase) (s : State) : (s.sweepCompose ph).pending = s.pending := by
  simp only [State.sweepCompose]
  repeat' split
  all_goals simp
@[simp] theorem sweepCompose_clock (ph : Phase) (s : State) : (s.sweepCompose ph).clock = s.clock := by
  simp only [State.sweepCompose]
  repeat' split
  all_goals simp
@[simp] theorem sweepCompose_gauge (ph : Phase) (s : State) : (s.sweepCompose ph).gauge = s.gauge := by
  simp only [State.sweepCompose]
  repeat' split
  all_goals simp
@[simp] theorem sweepCompose_peers (ph : Phase) (s : State) : (s.sweepCompose ph).peers = s.peers := by
  simp only [State.sweepCompose]
  repeat' split
  all_goals simp
@[simp] theorem sweepCompose_start (ph : Phase) (s : State) : (s.sweepCompose ph).start = s.start := by
  simp only [State.sweepCompose]
  repeat' split
  all_goals simp
@[simp] theorem sweepCompose_policy (ph : Phase) (s : State) : (s.sweepCompose ph).policy = s.policy := by
  simp only [State.sweepCompose]
  repeat' split
  all_goals simp
@[simp] theorem sweepCompose_pins (ph : Phase) (s : State) : (s.sweepCompose ph).pins = s.pins := by
  simp only [State.sweepCompose]
  repeat' split
  all_goals simp

@[simp] theorem endSweep_pending (s : State) : s.endSweep.pending = s.pending := by
  simp only [State.endSweep]
  repeat' split
  all_goals simp
@[simp] theorem endSweep_clock (s : State) : s.endSweep.clock = s.clock := by
  simp only [State.endSweep]
  repeat' split
  all_goals simp
@[simp] theorem endSweep_gauge (s : State) : s.endSweep.gauge = s.gauge := by
  simp only [State.endSweep]
  repeat' split
  all_goals simp
@[simp] theorem endSweep_accrued (s : State) : s.endSweep.accrued = s.accrued := by
  simp only [State.endSweep]
  repeat' split
  all_goals simp
@[simp] theorem endSweep_apply (s : State) : s.endSweep.apply = s.apply := by
  simp only [State.endSweep]
  repeat' split
  all_goals simp
@[simp] theorem endSweep_hinge (s : State) : s.endSweep.hinge = s.hinge := by
  simp only [State.endSweep]
  repeat' split
  all_goals simp
@[simp] theorem endSweep_port (s : State) : s.endSweep.port = s.port := by
  simp only [State.endSweep]
  repeat' split
  all_goals simp
@[simp] theorem endSweep_charger (s : State) : s.endSweep.charger = s.charger := by
  simp only [State.endSweep]
  repeat' split
  all_goals simp
@[simp] theorem endSweep_line (s : State) : s.endSweep.line = s.line := by
  simp only [State.endSweep]
  repeat' split
  all_goals simp
@[simp] theorem endSweep_peers (s : State) : s.endSweep.peers = s.peers := by
  simp only [State.endSweep]
  repeat' split
  all_goals simp
@[simp] theorem endSweep_station (s : State) : s.endSweep.station = s.station := by
  simp only [State.endSweep]
  repeat' split
  all_goals simp
@[simp] theorem endSweep_start (s : State) : s.endSweep.start = s.start := by
  simp only [State.endSweep]
  repeat' split
  all_goals simp
@[simp] theorem endSweep_fault (s : State) : s.endSweep.fault = s.fault := by
  simp only [State.endSweep]
  repeat' split
  all_goals simp
@[simp] theorem endSweep_policy (s : State) : s.endSweep.policy = s.policy := by
  simp only [State.endSweep]
  repeat' split
  all_goals simp
@[simp] theorem endSweep_pins (s : State) : s.endSweep.pins = s.pins := by
  simp only [State.endSweep]
  repeat' split
  all_goals simp

@[simp] theorem completeSweep_pending (r : Readings) (s : State) : (s.completeSweep r).pending = s.pending := by
  simp only [State.completeSweep]
  repeat' split
  all_goals simp
@[simp] theorem completeSweep_clock (r : Readings) (s : State) : (s.completeSweep r).clock = s.clock := by
  simp only [State.completeSweep]
  repeat' split
  all_goals simp
@[simp] theorem completeSweep_peers (r : Readings) (s : State) : (s.completeSweep r).peers = s.peers := by
  simp only [State.completeSweep]
  repeat' split
  all_goals simp
@[simp] theorem completeSweep_start (r : Readings) (s : State) : (s.completeSweep r).start = s.start := by
  simp only [State.completeSweep]
  repeat' split
  all_goals simp
@[simp] theorem completeSweep_policy (r : Readings) (s : State) : (s.completeSweep r).policy = s.policy := by
  simp only [State.completeSweep]
  repeat' split
  all_goals simp
@[simp] theorem completeSweep_pins (r : Readings) (s : State) : (s.completeSweep r).pins = s.pins := by
  simp only [State.completeSweep]
  repeat' split
  all_goals simp

@[simp] theorem endReception_pending (s : State) : s.endReception.pending = s.pending := by
  simp only [State.endReception]
  repeat' split
  all_goals simp
@[simp] theorem endReception_clock (s : State) : s.endReception.clock = s.clock := by
  simp only [State.endReception]
  repeat' split
  all_goals simp
@[simp] theorem endReception_round (s : State) : s.endReception.round = s.round := by
  simp only [State.endReception]
  repeat' split
  all_goals simp
@[simp] theorem endReception_gauge (s : State) : s.endReception.gauge = s.gauge := by
  simp only [State.endReception]
  repeat' split
  all_goals simp
@[simp] theorem endReception_accrued (s : State) : s.endReception.accrued = s.accrued := by
  simp only [State.endReception]
  repeat' split
  all_goals simp
@[simp] theorem endReception_apply (s : State) : s.endReception.apply = s.apply := by
  simp only [State.endReception]
  repeat' split
  all_goals simp
@[simp] theorem endReception_hinge (s : State) : s.endReception.hinge = s.hinge := by
  simp only [State.endReception]
  repeat' split
  all_goals simp
@[simp] theorem endReception_port (s : State) : s.endReception.port = s.port := by
  simp only [State.endReception]
  repeat' split
  all_goals simp
@[simp] theorem endReception_charger (s : State) : s.endReception.charger = s.charger := by
  simp only [State.endReception]
  repeat' split
  all_goals simp
@[simp] theorem endReception_peers (s : State) : s.endReception.peers = s.peers := by
  simp only [State.endReception]
  repeat' split
  all_goals simp
@[simp] theorem endReception_station (s : State) : s.endReception.station = s.station := by
  simp only [State.endReception]
  repeat' split
  all_goals simp
@[simp] theorem endReception_start (s : State) : s.endReception.start = s.start := by
  simp only [State.endReception]
  repeat' split
  all_goals simp
@[simp] theorem endReception_fault (s : State) : s.endReception.fault = s.fault := by
  simp only [State.endReception]
  repeat' split
  all_goals simp
@[simp] theorem endReception_policy (s : State) : s.endReception.policy = s.policy := by
  simp only [State.endReception]
  repeat' split
  all_goals simp
@[simp] theorem endReception_pins (s : State) : s.endReception.pins = s.pins := by
  simp only [State.endReception]
  repeat' split
  all_goals simp

@[simp] theorem servePost_pending (r : Setting) (code : Nat) (s : State) : (s.servePost r code).pending = s.pending := by
  simp only [State.servePost]
  repeat' split
  all_goals simp
@[simp] theorem servePost_clock (r : Setting) (code : Nat) (s : State) : (s.servePost r code).clock = s.clock := by
  simp only [State.servePost]
  repeat' split
  all_goals simp
@[simp] theorem servePost_gauge (r : Setting) (code : Nat) (s : State) : (s.servePost r code).gauge = s.gauge := by
  simp only [State.servePost]
  repeat' split
  all_goals simp
@[simp] theorem servePost_accrued (r : Setting) (code : Nat) (s : State) : (s.servePost r code).accrued = s.accrued := by
  simp only [State.servePost]
  repeat' split
  all_goals simp
@[simp] theorem servePost_hinge (r : Setting) (code : Nat) (s : State) : (s.servePost r code).hinge = s.hinge := by
  simp only [State.servePost]
  repeat' split
  all_goals simp
@[simp] theorem servePost_port (r : Setting) (code : Nat) (s : State) : (s.servePost r code).port = s.port := by
  simp only [State.servePost]
  repeat' split
  all_goals simp
@[simp] theorem servePost_charger (r : Setting) (code : Nat) (s : State) : (s.servePost r code).charger = s.charger := by
  simp only [State.servePost]
  repeat' split
  all_goals simp
@[simp] theorem servePost_peers (r : Setting) (code : Nat) (s : State) : (s.servePost r code).peers = s.peers := by
  simp only [State.servePost]
  repeat' split
  all_goals simp
@[simp] theorem servePost_station (r : Setting) (code : Nat) (s : State) : (s.servePost r code).station = s.station := by
  simp only [State.servePost]
  repeat' split
  all_goals simp
@[simp] theorem servePost_start (r : Setting) (code : Nat) (s : State) : (s.servePost r code).start = s.start := by
  simp only [State.servePost]
  repeat' split
  all_goals simp
@[simp] theorem servePost_fault (r : Setting) (code : Nat) (s : State) : (s.servePost r code).fault = s.fault := by
  simp only [State.servePost]
  repeat' split
  all_goals simp
@[simp] theorem servePost_policy (r : Setting) (code : Nat) (s : State) : (s.servePost r code).policy = s.policy := by
  simp only [State.servePost]
  repeat' split
  all_goals simp
@[simp] theorem servePost_pins (r : Setting) (code : Nat) (s : State) : (s.servePost r code).pins = s.pins := by
  simp only [State.servePost]
  repeat' split
  all_goals simp

@[simp] theorem arrivalRun_pending (c : StateContents) (s : State) : (s.arrivalRun c).pending = s.pending := by
  simp only [State.arrivalRun]
  repeat' split
  all_goals simp
@[simp] theorem arrivalRun_clock (c : StateContents) (s : State) : (s.arrivalRun c).clock = s.clock := by
  simp only [State.arrivalRun]
  repeat' split
  all_goals simp
@[simp] theorem arrivalRun_gauge (c : StateContents) (s : State) : (s.arrivalRun c).gauge = s.gauge := by
  simp only [State.arrivalRun]
  repeat' split
  all_goals simp
@[simp] theorem arrivalRun_peers (c : StateContents) (s : State) : (s.arrivalRun c).peers = s.peers := by
  simp only [State.arrivalRun]
  repeat' split
  all_goals simp
@[simp] theorem arrivalRun_station (c : StateContents) (s : State) : (s.arrivalRun c).station = s.station := by
  simp only [State.arrivalRun]
  repeat' split
  all_goals simp
@[simp] theorem arrivalRun_start (c : StateContents) (s : State) : (s.arrivalRun c).start = s.start := by
  simp only [State.arrivalRun]
  repeat' split
  all_goals simp
@[simp] theorem arrivalRun_policy (c : StateContents) (s : State) : (s.arrivalRun c).policy = s.policy := by
  simp only [State.arrivalRun]
  repeat' split
  all_goals simp
@[simp] theorem arrivalRun_pins (c : StateContents) (s : State) : (s.arrivalRun c).pins = s.pins := by
  simp only [State.arrivalRun]
  repeat' split
  all_goals simp

@[simp] theorem arrivalRunIfDue_pending (s : State) : s.arrivalRunIfDue.pending = s.pending := by
  simp only [State.arrivalRunIfDue]
  repeat' split
  all_goals simp
@[simp] theorem arrivalRunIfDue_clock (s : State) : s.arrivalRunIfDue.clock = s.clock := by
  simp only [State.arrivalRunIfDue]
  repeat' split
  all_goals simp
@[simp] theorem arrivalRunIfDue_gauge (s : State) : s.arrivalRunIfDue.gauge = s.gauge := by
  simp only [State.arrivalRunIfDue]
  repeat' split
  all_goals simp
@[simp] theorem arrivalRunIfDue_peers (s : State) : s.arrivalRunIfDue.peers = s.peers := by
  simp only [State.arrivalRunIfDue]
  repeat' split
  all_goals simp
@[simp] theorem arrivalRunIfDue_station (s : State) : s.arrivalRunIfDue.station = s.station := by
  simp only [State.arrivalRunIfDue]
  repeat' split
  all_goals simp
@[simp] theorem arrivalRunIfDue_start (s : State) : s.arrivalRunIfDue.start = s.start := by
  simp only [State.arrivalRunIfDue]
  repeat' split
  all_goals simp
@[simp] theorem arrivalRunIfDue_policy (s : State) : s.arrivalRunIfDue.policy = s.policy := by
  simp only [State.arrivalRunIfDue]
  repeat' split
  all_goals simp
@[simp] theorem arrivalRunIfDue_pins (s : State) : s.arrivalRunIfDue.pins = s.pins := by
  simp only [State.arrivalRunIfDue]
  repeat' split
  all_goals simp

@[simp] theorem serveArrival_pending (s : State) : s.serveArrival.pending = s.pending := by
  simp only [State.serveArrival]
  repeat' split
  all_goals simp
@[simp] theorem serveArrival_clock (s : State) : s.serveArrival.clock = s.clock := by
  simp only [State.serveArrival]
  repeat' split
  all_goals simp
@[simp] theorem serveArrival_gauge (s : State) : s.serveArrival.gauge = s.gauge := by
  simp only [State.serveArrival]
  repeat' split
  all_goals simp
@[simp] theorem serveArrival_peers (s : State) : s.serveArrival.peers = s.peers := by
  simp only [State.serveArrival]
  repeat' split
  all_goals simp
@[simp] theorem serveArrival_station (s : State) : s.serveArrival.station = s.station := by
  simp only [State.serveArrival]
  repeat' split
  all_goals simp
@[simp] theorem serveArrival_start (s : State) : s.serveArrival.start = s.start := by
  simp only [State.serveArrival]
  repeat' split
  all_goals simp
@[simp] theorem serveArrival_policy (s : State) : s.serveArrival.policy = s.policy := by
  simp only [State.serveArrival]
  repeat' split
  all_goals simp
@[simp] theorem serveArrival_pins (s : State) : s.serveArrival.pins = s.pins := by
  simp only [State.serveArrival]
  repeat' split
  all_goals simp

@[simp] theorem takeEntry_pending (a : BitVec 3) (p : StatePost) (st : StationState) (s : State) : (s.takeEntry a p st).pending = s.pending := by
  simp only [State.takeEntry]
  repeat' split
  all_goals simp
@[simp] theorem takeEntry_clock (a : BitVec 3) (p : StatePost) (st : StationState) (s : State) : (s.takeEntry a p st).clock = s.clock := by
  simp only [State.takeEntry]
  repeat' split
  all_goals simp
@[simp] theorem takeEntry_gauge (a : BitVec 3) (p : StatePost) (st : StationState) (s : State) : (s.takeEntry a p st).gauge = s.gauge := by
  simp only [State.takeEntry]
  repeat' split
  all_goals simp
@[simp] theorem takeEntry_accrued (a : BitVec 3) (p : StatePost) (st : StationState) (s : State) : (s.takeEntry a p st).accrued = s.accrued := by
  simp only [State.takeEntry]
  repeat' split
  all_goals simp
@[simp] theorem takeEntry_port (a : BitVec 3) (p : StatePost) (st : StationState) (s : State) : (s.takeEntry a p st).port = s.port := by
  simp only [State.takeEntry]
  repeat' split
  all_goals simp
@[simp] theorem takeEntry_charger (a : BitVec 3) (p : StatePost) (st : StationState) (s : State) : (s.takeEntry a p st).charger = s.charger := by
  simp only [State.takeEntry]
  repeat' split
  all_goals simp
@[simp] theorem takeEntry_start (a : BitVec 3) (p : StatePost) (st : StationState) (s : State) : (s.takeEntry a p st).start = s.start := by
  simp only [State.takeEntry]
  repeat' split
  all_goals simp
@[simp] theorem takeEntry_policy (a : BitVec 3) (p : StatePost) (st : StationState) (s : State) : (s.takeEntry a p st).policy = s.policy := by
  simp only [State.takeEntry]
  repeat' split
  all_goals simp
@[simp] theorem takeEntry_pins (a : BitVec 3) (p : StatePost) (st : StationState) (s : State) : (s.takeEntry a p st).pins = s.pins := by
  simp only [State.takeEntry]
  repeat' split
  all_goals simp

@[simp] theorem takeArrival_pending (a : BitVec 3) (p : StatePost) (s : State) : (s.takeArrival a p).pending = s.pending := by
  simp only [State.takeArrival]
  repeat' split
  all_goals simp
@[simp] theorem takeArrival_clock (a : BitVec 3) (p : StatePost) (s : State) : (s.takeArrival a p).clock = s.clock := by
  simp only [State.takeArrival]
  repeat' split
  all_goals simp
@[simp] theorem takeArrival_gauge (a : BitVec 3) (p : StatePost) (s : State) : (s.takeArrival a p).gauge = s.gauge := by
  simp only [State.takeArrival]
  repeat' split
  all_goals simp
@[simp] theorem takeArrival_start (a : BitVec 3) (p : StatePost) (s : State) : (s.takeArrival a p).start = s.start := by
  simp only [State.takeArrival]
  repeat' split
  all_goals simp
@[simp] theorem takeArrival_policy (a : BitVec 3) (p : StatePost) (s : State) : (s.takeArrival a p).policy = s.policy := by
  simp only [State.takeArrival]
  repeat' split
  all_goals simp
@[simp] theorem takeArrival_pins (a : BitVec 3) (p : StatePost) (s : State) : (s.takeArrival a p).pins = s.pins := by
  simp only [State.takeArrival]
  repeat' split
  all_goals simp

@[simp] theorem clash_pending (s : State) : s.clash.pending = s.pending := by
  simp only [State.clash]
  repeat' split
  all_goals simp
@[simp] theorem clash_clock (s : State) : s.clash.clock = s.clock := by
  simp only [State.clash]
  repeat' split
  all_goals simp
@[simp] theorem clash_gauge (s : State) : s.clash.gauge = s.gauge := by
  simp only [State.clash]
  repeat' split
  all_goals simp
@[simp] theorem clash_accrued (s : State) : s.clash.accrued = s.accrued := by
  simp only [State.clash]
  repeat' split
  all_goals simp
@[simp] theorem clash_port (s : State) : s.clash.port = s.port := by
  simp only [State.clash]
  repeat' split
  all_goals simp
@[simp] theorem clash_charger (s : State) : s.clash.charger = s.charger := by
  simp only [State.clash]
  repeat' split
  all_goals simp
@[simp] theorem clash_peers (s : State) : s.clash.peers = s.peers := by
  simp only [State.clash]
  repeat' split
  all_goals simp
@[simp] theorem clash_start (s : State) : s.clash.start = s.start := by
  simp only [State.clash]
  repeat' split
  all_goals simp
@[simp] theorem clash_fault (s : State) : s.clash.fault = s.fault := by
  simp only [State.clash]
  repeat' split
  all_goals simp
@[simp] theorem clash_policy (s : State) : s.clash.policy = s.policy := by
  simp only [State.clash]
  repeat' split
  all_goals simp
@[simp] theorem clash_pins (s : State) : s.clash.pins = s.pins := by
  simp only [State.clash]
  repeat' split
  all_goals simp

@[simp] theorem takeClash_pending (s : State) : s.takeClash.pending = s.pending := by
  simp only [State.takeClash]
  repeat' split
  all_goals simp
@[simp] theorem takeClash_clock (s : State) : s.takeClash.clock = s.clock := by
  simp only [State.takeClash]
  repeat' split
  all_goals simp
@[simp] theorem takeClash_gauge (s : State) : s.takeClash.gauge = s.gauge := by
  simp only [State.takeClash]
  repeat' split
  all_goals simp
@[simp] theorem takeClash_accrued (s : State) : s.takeClash.accrued = s.accrued := by
  simp only [State.takeClash]
  repeat' split
  all_goals simp
@[simp] theorem takeClash_peers (s : State) : s.takeClash.peers = s.peers := by
  simp only [State.takeClash]
  repeat' split
  all_goals simp
@[simp] theorem takeClash_start (s : State) : s.takeClash.start = s.start := by
  simp only [State.takeClash]
  repeat' split
  all_goals simp
@[simp] theorem takeClash_policy (s : State) : s.takeClash.policy = s.policy := by
  simp only [State.takeClash]
  repeat' split
  all_goals simp
@[simp] theorem takeClash_pins (s : State) : s.takeClash.pins = s.pins := by
  simp only [State.takeClash]
  repeat' split
  all_goals simp

@[simp] theorem queueFinal_pending (s : State) : s.queueFinal.pending = s.pending := by
  simp only [State.queueFinal]
  repeat' split
  all_goals simp
@[simp] theorem queueFinal_clock (s : State) : s.queueFinal.clock = s.clock := by
  simp only [State.queueFinal]
  repeat' split
  all_goals simp
@[simp] theorem queueFinal_gauge (s : State) : s.queueFinal.gauge = s.gauge := by
  simp only [State.queueFinal]
  repeat' split
  all_goals simp
@[simp] theorem queueFinal_accrued (s : State) : s.queueFinal.accrued = s.accrued := by
  simp only [State.queueFinal]
  repeat' split
  all_goals simp
@[simp] theorem queueFinal_apply (s : State) : s.queueFinal.apply = s.apply := by
  simp only [State.queueFinal]
  repeat' split
  all_goals simp
@[simp] theorem queueFinal_hinge (s : State) : s.queueFinal.hinge = s.hinge := by
  simp only [State.queueFinal]
  repeat' split
  all_goals simp
@[simp] theorem queueFinal_port (s : State) : s.queueFinal.port = s.port := by
  simp only [State.queueFinal]
  repeat' split
  all_goals simp
@[simp] theorem queueFinal_charger (s : State) : s.queueFinal.charger = s.charger := by
  simp only [State.queueFinal]
  repeat' split
  all_goals simp
@[simp] theorem queueFinal_peers (s : State) : s.queueFinal.peers = s.peers := by
  simp only [State.queueFinal]
  repeat' split
  all_goals simp
@[simp] theorem queueFinal_station (s : State) : s.queueFinal.station = s.station := by
  simp only [State.queueFinal]
  repeat' split
  all_goals simp
@[simp] theorem queueFinal_start (s : State) : s.queueFinal.start = s.start := by
  simp only [State.queueFinal]
  repeat' split
  all_goals simp
@[simp] theorem queueFinal_policy (s : State) : s.queueFinal.policy = s.policy := by
  simp only [State.queueFinal]
  repeat' split
  all_goals simp
@[simp] theorem queueFinal_pins (s : State) : s.queueFinal.pins = s.pins := by
  simp only [State.queueFinal]
  repeat' split
  all_goals simp

@[simp] theorem enterShelf_pending (s : State) : s.enterShelf.pending = s.pending := by
  simp only [State.enterShelf]
  repeat' split
  all_goals simp
@[simp] theorem enterShelf_clock (s : State) : s.enterShelf.clock = s.clock := by
  simp only [State.enterShelf]
  repeat' split
  all_goals simp
@[simp] theorem enterShelf_gauge (s : State) : s.enterShelf.gauge = s.gauge := by
  simp only [State.enterShelf]
  repeat' split
  all_goals simp
@[simp] theorem enterShelf_accrued (s : State) : s.enterShelf.accrued = s.accrued := by
  simp only [State.enterShelf]
  repeat' split
  all_goals simp
@[simp] theorem enterShelf_peers (s : State) : s.enterShelf.peers = s.peers := by
  simp only [State.enterShelf]
  repeat' split
  all_goals simp
@[simp] theorem enterShelf_start (s : State) : s.enterShelf.start = s.start := by
  simp only [State.enterShelf]
  repeat' split
  all_goals simp
@[simp] theorem enterShelf_policy (s : State) : s.enterShelf.policy = s.policy := by
  simp only [State.enterShelf]
  repeat' split
  all_goals simp
@[simp] theorem enterShelf_pins (s : State) : s.enterShelf.pins = s.pins := by
  simp only [State.enterShelf]
  repeat' split
  all_goals simp

@[simp] theorem shelfOrder_pending (vIn : Nat) (s : State) : (s.shelfOrder vIn).pending = s.pending := by
  simp only [State.shelfOrder]
  repeat' split
  all_goals simp
@[simp] theorem shelfOrder_clock (vIn : Nat) (s : State) : (s.shelfOrder vIn).clock = s.clock := by
  simp only [State.shelfOrder]
  repeat' split
  all_goals simp
@[simp] theorem shelfOrder_gauge (vIn : Nat) (s : State) : (s.shelfOrder vIn).gauge = s.gauge := by
  simp only [State.shelfOrder]
  repeat' split
  all_goals simp
@[simp] theorem shelfOrder_accrued (vIn : Nat) (s : State) : (s.shelfOrder vIn).accrued = s.accrued := by
  simp only [State.shelfOrder]
  repeat' split
  all_goals simp
@[simp] theorem shelfOrder_peers (vIn : Nat) (s : State) : (s.shelfOrder vIn).peers = s.peers := by
  simp only [State.shelfOrder]
  repeat' split
  all_goals simp
@[simp] theorem shelfOrder_start (vIn : Nat) (s : State) : (s.shelfOrder vIn).start = s.start := by
  simp only [State.shelfOrder]
  repeat' split
  all_goals simp
@[simp] theorem shelfOrder_policy (vIn : Nat) (s : State) : (s.shelfOrder vIn).policy = s.policy := by
  simp only [State.shelfOrder]
  repeat' split
  all_goals simp
@[simp] theorem shelfOrder_pins (vIn : Nat) (s : State) : (s.shelfOrder vIn).pins = s.pins := by
  simp only [State.shelfOrder]
  repeat' split
  all_goals simp

@[simp] theorem releaseHinge_pending (s : State) : s.releaseHinge.pending = s.pending := by
  simp only [State.releaseHinge]
  repeat' split
  all_goals simp
@[simp] theorem releaseHinge_clock (s : State) : s.releaseHinge.clock = s.clock := by
  simp only [State.releaseHinge]
  repeat' split
  all_goals simp
@[simp] theorem releaseHinge_round (s : State) : s.releaseHinge.round = s.round := by
  simp only [State.releaseHinge]
  repeat' split
  all_goals simp
@[simp] theorem releaseHinge_gauge (s : State) : s.releaseHinge.gauge = s.gauge := by
  simp only [State.releaseHinge]
  repeat' split
  all_goals simp
@[simp] theorem releaseHinge_accrued (s : State) : s.releaseHinge.accrued = s.accrued := by
  simp only [State.releaseHinge]
  repeat' split
  all_goals simp
@[simp] theorem releaseHinge_port (s : State) : s.releaseHinge.port = s.port := by
  simp only [State.releaseHinge]
  repeat' split
  all_goals simp
@[simp] theorem releaseHinge_charger (s : State) : s.releaseHinge.charger = s.charger := by
  simp only [State.releaseHinge]
  repeat' split
  all_goals simp
@[simp] theorem releaseHinge_line (s : State) : s.releaseHinge.line = s.line := by
  simp only [State.releaseHinge]
  repeat' split
  all_goals simp
@[simp] theorem releaseHinge_peers (s : State) : s.releaseHinge.peers = s.peers := by
  simp only [State.releaseHinge]
  repeat' split
  all_goals simp
@[simp] theorem releaseHinge_station (s : State) : s.releaseHinge.station = s.station := by
  simp only [State.releaseHinge]
  repeat' split
  all_goals simp
@[simp] theorem releaseHinge_start (s : State) : s.releaseHinge.start = s.start := by
  simp only [State.releaseHinge]
  repeat' split
  all_goals simp
@[simp] theorem releaseHinge_fault (s : State) : s.releaseHinge.fault = s.fault := by
  simp only [State.releaseHinge]
  repeat' split
  all_goals simp
@[simp] theorem releaseHinge_policy (s : State) : s.releaseHinge.policy = s.policy := by
  simp only [State.releaseHinge]
  repeat' split
  all_goals simp
@[simp] theorem releaseHinge_pins (s : State) : s.releaseHinge.pins = s.pins := by
  simp only [State.releaseHinge]
  repeat' split
  all_goals simp

@[simp] theorem leaveLatched_pending (s : State) : s.leaveLatched.pending = s.pending := by
  simp only [State.leaveLatched]
  repeat' split
  all_goals simp
@[simp] theorem leaveLatched_clock (s : State) : s.leaveLatched.clock = s.clock := by
  simp only [State.leaveLatched]
  repeat' split
  all_goals simp
@[simp] theorem leaveLatched_gauge (s : State) : s.leaveLatched.gauge = s.gauge := by
  simp only [State.leaveLatched]
  repeat' split
  all_goals simp
@[simp] theorem leaveLatched_accrued (s : State) : s.leaveLatched.accrued = s.accrued := by
  simp only [State.leaveLatched]
  repeat' split
  all_goals simp
@[simp] theorem leaveLatched_peers (s : State) : s.leaveLatched.peers = s.peers := by
  simp only [State.leaveLatched]
  repeat' split
  all_goals simp
@[simp] theorem leaveLatched_start (s : State) : s.leaveLatched.start = s.start := by
  simp only [State.leaveLatched]
  repeat' split
  all_goals simp
@[simp] theorem leaveLatched_policy (s : State) : s.leaveLatched.policy = s.policy := by
  simp only [State.leaveLatched]
  repeat' split
  all_goals simp
@[simp] theorem leaveLatched_pins (s : State) : s.leaveLatched.pins = s.pins := by
  simp only [State.leaveLatched]
  repeat' split
  all_goals simp

@[simp] theorem releaseOrder_pending (s : State) : s.releaseOrder.pending = s.pending := by
  simp only [State.releaseOrder]
  repeat' split
  all_goals simp
@[simp] theorem releaseOrder_clock (s : State) : s.releaseOrder.clock = s.clock := by
  simp only [State.releaseOrder]
  repeat' split
  all_goals simp
@[simp] theorem releaseOrder_gauge (s : State) : s.releaseOrder.gauge = s.gauge := by
  simp only [State.releaseOrder]
  repeat' split
  all_goals simp
@[simp] theorem releaseOrder_accrued (s : State) : s.releaseOrder.accrued = s.accrued := by
  simp only [State.releaseOrder]
  repeat' split
  all_goals simp
@[simp] theorem releaseOrder_peers (s : State) : s.releaseOrder.peers = s.peers := by
  simp only [State.releaseOrder]
  repeat' split
  all_goals simp
@[simp] theorem releaseOrder_start (s : State) : s.releaseOrder.start = s.start := by
  simp only [State.releaseOrder]
  repeat' split
  all_goals simp
@[simp] theorem releaseOrder_policy (s : State) : s.releaseOrder.policy = s.policy := by
  simp only [State.releaseOrder]
  repeat' split
  all_goals simp
@[simp] theorem releaseOrder_pins (s : State) : s.releaseOrder.pins = s.pins := by
  simp only [State.releaseOrder]
  repeat' split
  all_goals simp

@[simp] theorem storeContract_pending (k : Option Nat) (s : State) : (s.storeContract k).pending = s.pending := by
  simp only [State.storeContract]
  repeat' split
  all_goals simp
@[simp] theorem storeContract_clock (k : Option Nat) (s : State) : (s.storeContract k).clock = s.clock := by
  simp only [State.storeContract]
  repeat' split
  all_goals simp
@[simp] theorem storeContract_round (k : Option Nat) (s : State) : (s.storeContract k).round = s.round := by
  simp only [State.storeContract]
  repeat' split
  all_goals simp
@[simp] theorem storeContract_gauge (k : Option Nat) (s : State) : (s.storeContract k).gauge = s.gauge := by
  simp only [State.storeContract]
  repeat' split
  all_goals simp
@[simp] theorem storeContract_accrued (k : Option Nat) (s : State) : (s.storeContract k).accrued = s.accrued := by
  simp only [State.storeContract]
  repeat' split
  all_goals simp
@[simp] theorem storeContract_hinge (k : Option Nat) (s : State) : (s.storeContract k).hinge = s.hinge := by
  simp only [State.storeContract]
  repeat' split
  all_goals simp
@[simp] theorem storeContract_charger (k : Option Nat) (s : State) : (s.storeContract k).charger = s.charger := by
  simp only [State.storeContract]
  repeat' split
  all_goals simp
@[simp] theorem storeContract_line (k : Option Nat) (s : State) : (s.storeContract k).line = s.line := by
  simp only [State.storeContract]
  repeat' split
  all_goals simp
@[simp] theorem storeContract_peers (k : Option Nat) (s : State) : (s.storeContract k).peers = s.peers := by
  simp only [State.storeContract]
  repeat' split
  all_goals simp
@[simp] theorem storeContract_station (k : Option Nat) (s : State) : (s.storeContract k).station = s.station := by
  simp only [State.storeContract]
  repeat' split
  all_goals simp
@[simp] theorem storeContract_start (k : Option Nat) (s : State) : (s.storeContract k).start = s.start := by
  simp only [State.storeContract]
  repeat' split
  all_goals simp
@[simp] theorem storeContract_fault (k : Option Nat) (s : State) : (s.storeContract k).fault = s.fault := by
  simp only [State.storeContract]
  repeat' split
  all_goals simp
@[simp] theorem storeContract_pins (k : Option Nat) (s : State) : (s.storeContract k).pins = s.pins := by
  simp only [State.storeContract]
  repeat' split
  all_goals simp

@[simp] theorem routeOrder_pending (o : Order) (vIn : Nat) (s : State) : (s.routeOrder o vIn).pending = s.pending := by
  simp only [State.routeOrder]
  repeat' split
  all_goals simp
@[simp] theorem routeOrder_clock (o : Order) (vIn : Nat) (s : State) : (s.routeOrder o vIn).clock = s.clock := by
  simp only [State.routeOrder]
  repeat' split
  all_goals simp
@[simp] theorem routeOrder_gauge (o : Order) (vIn : Nat) (s : State) : (s.routeOrder o vIn).gauge = s.gauge := by
  simp only [State.routeOrder]
  repeat' split
  all_goals simp
@[simp] theorem routeOrder_accrued (o : Order) (vIn : Nat) (s : State) : (s.routeOrder o vIn).accrued = s.accrued := by
  simp only [State.routeOrder]
  repeat' split
  all_goals simp
@[simp] theorem routeOrder_peers (o : Order) (vIn : Nat) (s : State) : (s.routeOrder o vIn).peers = s.peers := by
  simp only [State.routeOrder]
  repeat' split
  all_goals simp
@[simp] theorem routeOrder_start (o : Order) (vIn : Nat) (s : State) : (s.routeOrder o vIn).start = s.start := by
  simp only [State.routeOrder]
  repeat' split
  all_goals simp
@[simp] theorem routeOrder_policy (o : Order) (vIn : Nat) (s : State) : (s.routeOrder o vIn).policy = s.policy := by
  simp only [State.routeOrder]
  repeat' split
  all_goals simp
@[simp] theorem routeOrder_pins (o : Order) (vIn : Nat) (s : State) : (s.routeOrder o vIn).pins = s.pins := by
  simp only [State.routeOrder]
  repeat' split
  all_goals simp

@[simp] theorem takeLimit_pending (p : LimitPost) (vIn : Nat) (s : State) : (s.takeLimit p vIn).pending = s.pending := by
  simp only [State.takeLimit]
  repeat' split
  all_goals simp
@[simp] theorem takeLimit_clock (p : LimitPost) (vIn : Nat) (s : State) : (s.takeLimit p vIn).clock = s.clock := by
  simp only [State.takeLimit]
  repeat' split
  all_goals simp
@[simp] theorem takeLimit_gauge (p : LimitPost) (vIn : Nat) (s : State) : (s.takeLimit p vIn).gauge = s.gauge := by
  simp only [State.takeLimit]
  repeat' split
  all_goals simp
@[simp] theorem takeLimit_accrued (p : LimitPost) (vIn : Nat) (s : State) : (s.takeLimit p vIn).accrued = s.accrued := by
  simp only [State.takeLimit]
  repeat' split
  all_goals simp
@[simp] theorem takeLimit_peers (p : LimitPost) (vIn : Nat) (s : State) : (s.takeLimit p vIn).peers = s.peers := by
  simp only [State.takeLimit]
  repeat' split
  all_goals simp
@[simp] theorem takeLimit_start (p : LimitPost) (vIn : Nat) (s : State) : (s.takeLimit p vIn).start = s.start := by
  simp only [State.takeLimit]
  repeat' split
  all_goals simp
@[simp] theorem takeLimit_pins (p : LimitPost) (vIn : Nat) (s : State) : (s.takeLimit p vIn).pins = s.pins := by
  simp only [State.takeLimit]
  repeat' split
  all_goals simp

@[simp] theorem lineIdle_pending (s : State) : s.lineIdle.pending = s.pending := by
  simp only [State.lineIdle]
  repeat' split
  all_goals simp
@[simp] theorem lineIdle_clock (s : State) : s.lineIdle.clock = s.clock := by
  simp only [State.lineIdle]
  repeat' split
  all_goals simp
@[simp] theorem lineIdle_round (s : State) : s.lineIdle.round = s.round := by
  simp only [State.lineIdle]
  repeat' split
  all_goals simp
@[simp] theorem lineIdle_gauge (s : State) : s.lineIdle.gauge = s.gauge := by
  simp only [State.lineIdle]
  repeat' split
  all_goals simp
@[simp] theorem lineIdle_accrued (s : State) : s.lineIdle.accrued = s.accrued := by
  simp only [State.lineIdle]
  repeat' split
  all_goals simp
@[simp] theorem lineIdle_apply (s : State) : s.lineIdle.apply = s.apply := by
  simp only [State.lineIdle]
  repeat' split
  all_goals simp
@[simp] theorem lineIdle_hinge (s : State) : s.lineIdle.hinge = s.hinge := by
  simp only [State.lineIdle]
  repeat' split
  all_goals simp
@[simp] theorem lineIdle_port (s : State) : s.lineIdle.port = s.port := by
  simp only [State.lineIdle]
  repeat' split
  all_goals simp
@[simp] theorem lineIdle_charger (s : State) : s.lineIdle.charger = s.charger := by
  simp only [State.lineIdle]
  repeat' split
  all_goals simp
@[simp] theorem lineIdle_peers (s : State) : s.lineIdle.peers = s.peers := by
  simp only [State.lineIdle]
  repeat' split
  all_goals simp
@[simp] theorem lineIdle_station (s : State) : s.lineIdle.station = s.station := by
  simp only [State.lineIdle]
  repeat' split
  all_goals simp
@[simp] theorem lineIdle_start (s : State) : s.lineIdle.start = s.start := by
  simp only [State.lineIdle]
  repeat' split
  all_goals simp
@[simp] theorem lineIdle_fault (s : State) : s.lineIdle.fault = s.fault := by
  simp only [State.lineIdle]
  repeat' split
  all_goals simp
@[simp] theorem lineIdle_policy (s : State) : s.lineIdle.policy = s.policy := by
  simp only [State.lineIdle]
  repeat' split
  all_goals simp
@[simp] theorem lineIdle_pins (s : State) : s.lineIdle.pins = s.pins := by
  simp only [State.lineIdle]
  repeat' split
  all_goals simp

@[simp] theorem takeSent_pending (p : Setting) (s : State) : (s.takeSent p).pending = s.pending := by
  simp only [State.takeSent]
  repeat' split
  all_goals simp
@[simp] theorem takeSent_clock (p : Setting) (s : State) : (s.takeSent p).clock = s.clock := by
  simp only [State.takeSent]
  repeat' split
  all_goals simp
@[simp] theorem takeSent_round (p : Setting) (s : State) : (s.takeSent p).round = s.round := by
  simp only [State.takeSent]
  repeat' split
  all_goals simp
@[simp] theorem takeSent_gauge (p : Setting) (s : State) : (s.takeSent p).gauge = s.gauge := by
  simp only [State.takeSent]
  repeat' split
  all_goals simp
@[simp] theorem takeSent_accrued (p : Setting) (s : State) : (s.takeSent p).accrued = s.accrued := by
  simp only [State.takeSent]
  repeat' split
  all_goals simp
@[simp] theorem takeSent_line (p : Setting) (s : State) : (s.takeSent p).line = s.line := by
  simp only [State.takeSent]
  repeat' split
  all_goals simp
@[simp] theorem takeSent_peers (p : Setting) (s : State) : (s.takeSent p).peers = s.peers := by
  simp only [State.takeSent]
  repeat' split
  all_goals simp
@[simp] theorem takeSent_station (p : Setting) (s : State) : (s.takeSent p).station = s.station := by
  simp only [State.takeSent]
  repeat' split
  all_goals simp
@[simp] theorem takeSent_start (p : Setting) (s : State) : (s.takeSent p).start = s.start := by
  simp only [State.takeSent]
  repeat' split
  all_goals simp
@[simp] theorem takeSent_fault (p : Setting) (s : State) : (s.takeSent p).fault = s.fault := by
  simp only [State.takeSent]
  repeat' split
  all_goals simp
@[simp] theorem takeSent_policy (p : Setting) (s : State) : (s.takeSent p).policy = s.policy := by
  simp only [State.takeSent]
  repeat' split
  all_goals simp
@[simp] theorem takeSent_pins (p : Setting) (s : State) : (s.takeSent p).pins = s.pins := by
  simp only [State.takeSent]
  repeat' split
  all_goals simp

@[simp] theorem releaseHeld_pending (s : State) : s.releaseHeld.pending = s.pending := by
  simp only [State.releaseHeld]
  repeat' split
  all_goals simp
@[simp] theorem releaseHeld_clock (s : State) : s.releaseHeld.clock = s.clock := by
  simp only [State.releaseHeld]
  repeat' split
  all_goals simp
@[simp] theorem releaseHeld_gauge (s : State) : s.releaseHeld.gauge = s.gauge := by
  simp only [State.releaseHeld]
  repeat' split
  all_goals simp
@[simp] theorem releaseHeld_accrued (s : State) : s.releaseHeld.accrued = s.accrued := by
  simp only [State.releaseHeld]
  repeat' split
  all_goals simp
@[simp] theorem releaseHeld_apply (s : State) : s.releaseHeld.apply = s.apply := by
  simp only [State.releaseHeld]
  repeat' split
  all_goals simp
@[simp] theorem releaseHeld_hinge (s : State) : s.releaseHeld.hinge = s.hinge := by
  simp only [State.releaseHeld]
  repeat' split
  all_goals simp
@[simp] theorem releaseHeld_port (s : State) : s.releaseHeld.port = s.port := by
  simp only [State.releaseHeld]
  repeat' split
  all_goals simp
@[simp] theorem releaseHeld_charger (s : State) : s.releaseHeld.charger = s.charger := by
  simp only [State.releaseHeld]
  repeat' split
  all_goals simp
@[simp] theorem releaseHeld_peers (s : State) : s.releaseHeld.peers = s.peers := by
  simp only [State.releaseHeld]
  repeat' split
  all_goals simp
@[simp] theorem releaseHeld_station (s : State) : s.releaseHeld.station = s.station := by
  simp only [State.releaseHeld]
  repeat' split
  all_goals simp
@[simp] theorem releaseHeld_start (s : State) : s.releaseHeld.start = s.start := by
  simp only [State.releaseHeld]
  repeat' split
  all_goals simp
@[simp] theorem releaseHeld_policy (s : State) : s.releaseHeld.policy = s.policy := by
  simp only [State.releaseHeld]
  repeat' split
  all_goals simp
@[simp] theorem releaseHeld_pins (s : State) : s.releaseHeld.pins = s.pins := by
  simp only [State.releaseHeld]
  repeat' split
  all_goals simp

@[simp] theorem ownStateSent_pending (q : Queued OwnState) (s : State) : (s.ownStateSent q).pending = s.pending := by
  simp only [State.ownStateSent]
  repeat' split
  all_goals simp
@[simp] theorem ownStateSent_clock (q : Queued OwnState) (s : State) : (s.ownStateSent q).clock = s.clock := by
  simp only [State.ownStateSent]
  repeat' split
  all_goals simp
@[simp] theorem ownStateSent_gauge (q : Queued OwnState) (s : State) : (s.ownStateSent q).gauge = s.gauge := by
  simp only [State.ownStateSent]
  repeat' split
  all_goals simp
@[simp] theorem ownStateSent_accrued (q : Queued OwnState) (s : State) : (s.ownStateSent q).accrued = s.accrued := by
  simp only [State.ownStateSent]
  repeat' split
  all_goals simp
@[simp] theorem ownStateSent_peers (q : Queued OwnState) (s : State) : (s.ownStateSent q).peers = s.peers := by
  simp only [State.ownStateSent]
  repeat' split
  all_goals simp
@[simp] theorem ownStateSent_station (q : Queued OwnState) (s : State) : (s.ownStateSent q).station = s.station := by
  simp only [State.ownStateSent]
  repeat' split
  all_goals simp
@[simp] theorem ownStateSent_start (q : Queued OwnState) (s : State) : (s.ownStateSent q).start = s.start := by
  simp only [State.ownStateSent]
  repeat' split
  all_goals simp
@[simp] theorem ownStateSent_policy (q : Queued OwnState) (s : State) : (s.ownStateSent q).policy = s.policy := by
  simp only [State.ownStateSent]
  repeat' split
  all_goals simp
@[simp] theorem ownStateSent_pins (q : Queued OwnState) (s : State) : (s.ownStateSent q).pins = s.pins := by
  simp only [State.ownStateSent]
  repeat' split
  all_goals simp

@[simp] theorem settleRetry_pending (s : State) : s.settleRetry.pending = s.pending := by
  simp only [State.settleRetry]
  repeat' split
  all_goals simp
@[simp] theorem settleRetry_clock (s : State) : s.settleRetry.clock = s.clock := by
  simp only [State.settleRetry]
  repeat' split
  all_goals simp
@[simp] theorem settleRetry_gauge (s : State) : s.settleRetry.gauge = s.gauge := by
  simp only [State.settleRetry]
  repeat' split
  all_goals simp
@[simp] theorem settleRetry_accrued (s : State) : s.settleRetry.accrued = s.accrued := by
  simp only [State.settleRetry]
  repeat' split
  all_goals simp
@[simp] theorem settleRetry_hinge (s : State) : s.settleRetry.hinge = s.hinge := by
  simp only [State.settleRetry]
  repeat' split
  all_goals simp
@[simp] theorem settleRetry_port (s : State) : s.settleRetry.port = s.port := by
  simp only [State.settleRetry]
  repeat' split
  all_goals simp
@[simp] theorem settleRetry_charger (s : State) : s.settleRetry.charger = s.charger := by
  simp only [State.settleRetry]
  repeat' split
  all_goals simp
@[simp] theorem settleRetry_peers (s : State) : s.settleRetry.peers = s.peers := by
  simp only [State.settleRetry]
  repeat' split
  all_goals simp
@[simp] theorem settleRetry_station (s : State) : s.settleRetry.station = s.station := by
  simp only [State.settleRetry]
  repeat' split
  all_goals simp
@[simp] theorem settleRetry_start (s : State) : s.settleRetry.start = s.start := by
  simp only [State.settleRetry]
  repeat' split
  all_goals simp
@[simp] theorem settleRetry_policy (s : State) : s.settleRetry.policy = s.policy := by
  simp only [State.settleRetry]
  repeat' split
  all_goals simp
@[simp] theorem settleRetry_pins (s : State) : s.settleRetry.pins = s.pins := by
  simp only [State.settleRetry]
  repeat' split
  all_goals simp

@[simp] theorem stopSending_pending (b : List Bool) (s : State) : (s.stopSending b).pending = s.pending := by
  simp only [State.stopSending]
  repeat' split
  all_goals simp
@[simp] theorem stopSending_clock (b : List Bool) (s : State) : (s.stopSending b).clock = s.clock := by
  simp only [State.stopSending]
  repeat' split
  all_goals simp
@[simp] theorem stopSending_round (b : List Bool) (s : State) : (s.stopSending b).round = s.round := by
  simp only [State.stopSending]
  repeat' split
  all_goals simp
@[simp] theorem stopSending_gauge (b : List Bool) (s : State) : (s.stopSending b).gauge = s.gauge := by
  simp only [State.stopSending]
  repeat' split
  all_goals simp
@[simp] theorem stopSending_accrued (b : List Bool) (s : State) : (s.stopSending b).accrued = s.accrued := by
  simp only [State.stopSending]
  repeat' split
  all_goals simp
@[simp] theorem stopSending_apply (b : List Bool) (s : State) : (s.stopSending b).apply = s.apply := by
  simp only [State.stopSending]
  repeat' split
  all_goals simp
@[simp] theorem stopSending_hinge (b : List Bool) (s : State) : (s.stopSending b).hinge = s.hinge := by
  simp only [State.stopSending]
  repeat' split
  all_goals simp
@[simp] theorem stopSending_port (b : List Bool) (s : State) : (s.stopSending b).port = s.port := by
  simp only [State.stopSending]
  repeat' split
  all_goals simp
@[simp] theorem stopSending_charger (b : List Bool) (s : State) : (s.stopSending b).charger = s.charger := by
  simp only [State.stopSending]
  repeat' split
  all_goals simp
@[simp] theorem stopSending_peers (b : List Bool) (s : State) : (s.stopSending b).peers = s.peers := by
  simp only [State.stopSending]
  repeat' split
  all_goals simp
@[simp] theorem stopSending_station (b : List Bool) (s : State) : (s.stopSending b).station = s.station := by
  simp only [State.stopSending]
  repeat' split
  all_goals simp
@[simp] theorem stopSending_start (b : List Bool) (s : State) : (s.stopSending b).start = s.start := by
  simp only [State.stopSending]
  repeat' split
  all_goals simp
@[simp] theorem stopSending_fault (b : List Bool) (s : State) : (s.stopSending b).fault = s.fault := by
  simp only [State.stopSending]
  repeat' split
  all_goals simp
@[simp] theorem stopSending_policy (b : List Bool) (s : State) : (s.stopSending b).policy = s.policy := by
  simp only [State.stopSending]
  repeat' split
  all_goals simp
@[simp] theorem stopSending_pins (b : List Bool) (s : State) : (s.stopSending b).pins = s.pins := by
  simp only [State.stopSending]
  repeat' split
  all_goals simp

@[simp] theorem removeState_pending (s : State) : s.removeState.pending = s.pending := by
  simp only [State.removeState]
  repeat' split
  all_goals simp
@[simp] theorem removeState_clock (s : State) : s.removeState.clock = s.clock := by
  simp only [State.removeState]
  repeat' split
  all_goals simp
@[simp] theorem removeState_gauge (s : State) : s.removeState.gauge = s.gauge := by
  simp only [State.removeState]
  repeat' split
  all_goals simp
@[simp] theorem removeState_accrued (s : State) : s.removeState.accrued = s.accrued := by
  simp only [State.removeState]
  repeat' split
  all_goals simp
@[simp] theorem removeState_hinge (s : State) : s.removeState.hinge = s.hinge := by
  simp only [State.removeState]
  repeat' split
  all_goals simp
@[simp] theorem removeState_port (s : State) : s.removeState.port = s.port := by
  simp only [State.removeState]
  repeat' split
  all_goals simp
@[simp] theorem removeState_charger (s : State) : s.removeState.charger = s.charger := by
  simp only [State.removeState]
  repeat' split
  all_goals simp
@[simp] theorem removeState_peers (s : State) : s.removeState.peers = s.peers := by
  simp only [State.removeState]
  repeat' split
  all_goals simp
@[simp] theorem removeState_station (s : State) : s.removeState.station = s.station := by
  simp only [State.removeState]
  repeat' split
  all_goals simp
@[simp] theorem removeState_start (s : State) : s.removeState.start = s.start := by
  simp only [State.removeState]
  repeat' split
  all_goals simp
@[simp] theorem removeState_policy (s : State) : s.removeState.policy = s.policy := by
  simp only [State.removeState]
  repeat' split
  all_goals simp
@[simp] theorem removeState_pins (s : State) : s.removeState.pins = s.pins := by
  simp only [State.removeState]
  repeat' split
  all_goals simp

@[simp] theorem abortPost_fst_pending (k : PostKind) (s : State) : (s.abortPost k).1.pending = s.pending := by
  simp only [State.abortPost]
  repeat' split
  all_goals simp
@[simp] theorem abortPost_fst_clock (k : PostKind) (s : State) : (s.abortPost k).1.clock = s.clock := by
  simp only [State.abortPost]
  repeat' split
  all_goals simp
@[simp] theorem abortPost_fst_gauge (k : PostKind) (s : State) : (s.abortPost k).1.gauge = s.gauge := by
  simp only [State.abortPost]
  repeat' split
  all_goals simp
@[simp] theorem abortPost_fst_accrued (k : PostKind) (s : State) : (s.abortPost k).1.accrued = s.accrued := by
  simp only [State.abortPost]
  repeat' split
  all_goals simp
@[simp] theorem abortPost_fst_hinge (k : PostKind) (s : State) : (s.abortPost k).1.hinge = s.hinge := by
  simp only [State.abortPost]
  repeat' split
  all_goals simp
@[simp] theorem abortPost_fst_port (k : PostKind) (s : State) : (s.abortPost k).1.port = s.port := by
  simp only [State.abortPost]
  repeat' split
  all_goals simp
@[simp] theorem abortPost_fst_charger (k : PostKind) (s : State) : (s.abortPost k).1.charger = s.charger := by
  simp only [State.abortPost]
  repeat' split
  all_goals simp
@[simp] theorem abortPost_fst_peers (k : PostKind) (s : State) : (s.abortPost k).1.peers = s.peers := by
  simp only [State.abortPost]
  repeat' split
  all_goals simp
@[simp] theorem abortPost_fst_station (k : PostKind) (s : State) : (s.abortPost k).1.station = s.station := by
  simp only [State.abortPost]
  repeat' split
  all_goals simp
@[simp] theorem abortPost_fst_start (k : PostKind) (s : State) : (s.abortPost k).1.start = s.start := by
  simp only [State.abortPost]
  repeat' split
  all_goals simp
@[simp] theorem abortPost_fst_policy (k : PostKind) (s : State) : (s.abortPost k).1.policy = s.policy := by
  simp only [State.abortPost]
  repeat' split
  all_goals simp
@[simp] theorem abortPost_fst_pins (k : PostKind) (s : State) : (s.abortPost k).1.pins = s.pins := by
  simp only [State.abortPost]
  repeat' split
  all_goals simp

@[simp] theorem echoMismatch_fst_pending (k : PostKind) (b : List Bool) (s : State) : (s.echoMismatch k b).1.pending = s.pending := by
  simp only [State.echoMismatch]
  repeat' split
  all_goals simp
@[simp] theorem echoMismatch_fst_clock (k : PostKind) (b : List Bool) (s : State) : (s.echoMismatch k b).1.clock = s.clock := by
  simp only [State.echoMismatch]
  repeat' split
  all_goals simp
@[simp] theorem echoMismatch_fst_gauge (k : PostKind) (b : List Bool) (s : State) : (s.echoMismatch k b).1.gauge = s.gauge := by
  simp only [State.echoMismatch]
  repeat' split
  all_goals simp
@[simp] theorem echoMismatch_fst_accrued (k : PostKind) (b : List Bool) (s : State) : (s.echoMismatch k b).1.accrued = s.accrued := by
  simp only [State.echoMismatch]
  repeat' split
  all_goals simp
@[simp] theorem echoMismatch_fst_hinge (k : PostKind) (b : List Bool) (s : State) : (s.echoMismatch k b).1.hinge = s.hinge := by
  simp only [State.echoMismatch]
  repeat' split
  all_goals simp
@[simp] theorem echoMismatch_fst_port (k : PostKind) (b : List Bool) (s : State) : (s.echoMismatch k b).1.port = s.port := by
  simp only [State.echoMismatch]
  repeat' split
  all_goals simp
@[simp] theorem echoMismatch_fst_charger (k : PostKind) (b : List Bool) (s : State) : (s.echoMismatch k b).1.charger = s.charger := by
  simp only [State.echoMismatch]
  repeat' split
  all_goals simp
@[simp] theorem echoMismatch_fst_peers (k : PostKind) (b : List Bool) (s : State) : (s.echoMismatch k b).1.peers = s.peers := by
  simp only [State.echoMismatch]
  repeat' split
  all_goals simp
@[simp] theorem echoMismatch_fst_station (k : PostKind) (b : List Bool) (s : State) : (s.echoMismatch k b).1.station = s.station := by
  simp only [State.echoMismatch]
  repeat' split
  all_goals simp
@[simp] theorem echoMismatch_fst_start (k : PostKind) (b : List Bool) (s : State) : (s.echoMismatch k b).1.start = s.start := by
  simp only [State.echoMismatch]
  repeat' split
  all_goals simp
@[simp] theorem echoMismatch_fst_policy (k : PostKind) (b : List Bool) (s : State) : (s.echoMismatch k b).1.policy = s.policy := by
  simp only [State.echoMismatch]
  repeat' split
  all_goals simp
@[simp] theorem echoMismatch_fst_pins (k : PostKind) (b : List Bool) (s : State) : (s.echoMismatch k b).1.pins = s.pins := by
  simp only [State.echoMismatch]
  repeat' split
  all_goals simp

@[simp] theorem echoAbort_pending (k : PostKind) (b : List Bool) (s : State) : (s.echoAbort k b).pending = s.pending := by
  simp only [State.echoAbort]
  repeat' split
  all_goals simp [State.raise, Kind.severity, Kind.number]
@[simp] theorem echoAbort_clock (k : PostKind) (b : List Bool) (s : State) : (s.echoAbort k b).clock = s.clock := by
  simp only [State.echoAbort]
  repeat' split
  all_goals simp [State.raise, Kind.severity, Kind.number]
@[simp] theorem echoAbort_gauge (k : PostKind) (b : List Bool) (s : State) : (s.echoAbort k b).gauge = s.gauge := by
  simp only [State.echoAbort]
  repeat' split
  all_goals simp [State.raise, Kind.severity, Kind.number]
@[simp] theorem echoAbort_accrued (k : PostKind) (b : List Bool) (s : State) : (s.echoAbort k b).accrued = s.accrued := by
  simp only [State.echoAbort]
  repeat' split
  all_goals simp [State.raise, Kind.severity, Kind.number]
@[simp] theorem echoAbort_hinge (k : PostKind) (b : List Bool) (s : State) : (s.echoAbort k b).hinge = s.hinge := by
  simp only [State.echoAbort]
  repeat' split
  all_goals simp [State.raise, Kind.severity, Kind.number]
@[simp] theorem echoAbort_port (k : PostKind) (b : List Bool) (s : State) : (s.echoAbort k b).port = s.port := by
  simp only [State.echoAbort]
  repeat' split
  all_goals simp [State.raise, Kind.severity, Kind.number]
@[simp] theorem echoAbort_charger (k : PostKind) (b : List Bool) (s : State) : (s.echoAbort k b).charger = s.charger := by
  simp only [State.echoAbort]
  repeat' split
  all_goals simp [State.raise, Kind.severity, Kind.number]
@[simp] theorem echoAbort_peers (k : PostKind) (b : List Bool) (s : State) : (s.echoAbort k b).peers = s.peers := by
  simp only [State.echoAbort]
  repeat' split
  all_goals simp [State.raise, Kind.severity, Kind.number]
@[simp] theorem echoAbort_station (k : PostKind) (b : List Bool) (s : State) : (s.echoAbort k b).station = s.station := by
  simp only [State.echoAbort]
  repeat' split
  all_goals simp [State.raise, Kind.severity, Kind.number]
@[simp] theorem echoAbort_start (k : PostKind) (b : List Bool) (s : State) : (s.echoAbort k b).start = s.start := by
  simp only [State.echoAbort]
  repeat' split
  all_goals simp [State.raise, Kind.severity, Kind.number]
@[simp] theorem echoAbort_policy (k : PostKind) (b : List Bool) (s : State) : (s.echoAbort k b).policy = s.policy := by
  simp only [State.echoAbort]
  repeat' split
  all_goals simp [State.raise, Kind.severity, Kind.number]
@[simp] theorem echoAbort_pins (k : PostKind) (b : List Bool) (s : State) : (s.echoAbort k b).pins = s.pins := by
  simp only [State.echoAbort]
  repeat' split
  all_goals simp [State.raise, Kind.severity, Kind.number]

@[simp] theorem stuckStation_pending (s : State) : s.stuckStation.pending = s.pending := by
  simp only [State.stuckStation]
  repeat' split
  all_goals simp
@[simp] theorem stuckStation_clock (s : State) : s.stuckStation.clock = s.clock := by
  simp only [State.stuckStation]
  repeat' split
  all_goals simp
@[simp] theorem stuckStation_gauge (s : State) : s.stuckStation.gauge = s.gauge := by
  simp only [State.stuckStation]
  repeat' split
  all_goals simp
@[simp] theorem stuckStation_accrued (s : State) : s.stuckStation.accrued = s.accrued := by
  simp only [State.stuckStation]
  repeat' split
  all_goals simp
@[simp] theorem stuckStation_port (s : State) : s.stuckStation.port = s.port := by
  simp only [State.stuckStation]
  repeat' split
  all_goals simp
@[simp] theorem stuckStation_charger (s : State) : s.stuckStation.charger = s.charger := by
  simp only [State.stuckStation]
  repeat' split
  all_goals simp
@[simp] theorem stuckStation_peers (s : State) : s.stuckStation.peers = s.peers := by
  simp only [State.stuckStation]
  repeat' split
  all_goals simp
@[simp] theorem stuckStation_start (s : State) : s.stuckStation.start = s.start := by
  simp only [State.stuckStation]
  repeat' split
  all_goals simp
@[simp] theorem stuckStation_fault (s : State) : s.stuckStation.fault = s.fault := by
  simp only [State.stuckStation]
  repeat' split
  all_goals simp
@[simp] theorem stuckStation_policy (s : State) : s.stuckStation.policy = s.policy := by
  simp only [State.stuckStation]
  repeat' split
  all_goals simp
@[simp] theorem stuckStation_pins (s : State) : s.stuckStation.pins = s.pins := by
  simp only [State.stuckStation]
  repeat' split
  all_goals simp

@[simp] theorem abortRunning_fst_pending (s : State) : s.abortRunning.1.pending = s.pending := by
  simp only [State.abortRunning]
  repeat' split
  all_goals simp
@[simp] theorem abortRunning_fst_clock (s : State) : s.abortRunning.1.clock = s.clock := by
  simp only [State.abortRunning]
  repeat' split
  all_goals simp
@[simp] theorem abortRunning_fst_gauge (s : State) : s.abortRunning.1.gauge = s.gauge := by
  simp only [State.abortRunning]
  repeat' split
  all_goals simp
@[simp] theorem abortRunning_fst_accrued (s : State) : s.abortRunning.1.accrued = s.accrued := by
  simp only [State.abortRunning]
  repeat' split
  all_goals simp
@[simp] theorem abortRunning_fst_hinge (s : State) : s.abortRunning.1.hinge = s.hinge := by
  simp only [State.abortRunning]
  repeat' split
  all_goals simp
@[simp] theorem abortRunning_fst_port (s : State) : s.abortRunning.1.port = s.port := by
  simp only [State.abortRunning]
  repeat' split
  all_goals simp
@[simp] theorem abortRunning_fst_charger (s : State) : s.abortRunning.1.charger = s.charger := by
  simp only [State.abortRunning]
  repeat' split
  all_goals simp
@[simp] theorem abortRunning_fst_peers (s : State) : s.abortRunning.1.peers = s.peers := by
  simp only [State.abortRunning]
  repeat' split
  all_goals simp
@[simp] theorem abortRunning_fst_station (s : State) : s.abortRunning.1.station = s.station := by
  simp only [State.abortRunning]
  repeat' split
  all_goals simp
@[simp] theorem abortRunning_fst_start (s : State) : s.abortRunning.1.start = s.start := by
  simp only [State.abortRunning]
  repeat' split
  all_goals simp
@[simp] theorem abortRunning_fst_policy (s : State) : s.abortRunning.1.policy = s.policy := by
  simp only [State.abortRunning]
  repeat' split
  all_goals simp
@[simp] theorem abortRunning_fst_pins (s : State) : s.abortRunning.1.pins = s.pins := by
  simp only [State.abortRunning]
  repeat' split
  all_goals simp

@[simp] theorem discardBuffer_pending (b : List Bool) (s : State) : (s.discardBuffer b).pending = s.pending := by
  simp only [State.discardBuffer]
  repeat' split
  all_goals simp
@[simp] theorem discardBuffer_clock (b : List Bool) (s : State) : (s.discardBuffer b).clock = s.clock := by
  simp only [State.discardBuffer]
  repeat' split
  all_goals simp
@[simp] theorem discardBuffer_round (b : List Bool) (s : State) : (s.discardBuffer b).round = s.round := by
  simp only [State.discardBuffer]
  repeat' split
  all_goals simp
@[simp] theorem discardBuffer_gauge (b : List Bool) (s : State) : (s.discardBuffer b).gauge = s.gauge := by
  simp only [State.discardBuffer]
  repeat' split
  all_goals simp
@[simp] theorem discardBuffer_accrued (b : List Bool) (s : State) : (s.discardBuffer b).accrued = s.accrued := by
  simp only [State.discardBuffer]
  repeat' split
  all_goals simp
@[simp] theorem discardBuffer_apply (b : List Bool) (s : State) : (s.discardBuffer b).apply = s.apply := by
  simp only [State.discardBuffer]
  repeat' split
  all_goals simp
@[simp] theorem discardBuffer_hinge (b : List Bool) (s : State) : (s.discardBuffer b).hinge = s.hinge := by
  simp only [State.discardBuffer]
  repeat' split
  all_goals simp
@[simp] theorem discardBuffer_port (b : List Bool) (s : State) : (s.discardBuffer b).port = s.port := by
  simp only [State.discardBuffer]
  repeat' split
  all_goals simp
@[simp] theorem discardBuffer_charger (b : List Bool) (s : State) : (s.discardBuffer b).charger = s.charger := by
  simp only [State.discardBuffer]
  repeat' split
  all_goals simp
@[simp] theorem discardBuffer_peers (b : List Bool) (s : State) : (s.discardBuffer b).peers = s.peers := by
  simp only [State.discardBuffer]
  repeat' split
  all_goals simp
@[simp] theorem discardBuffer_station (b : List Bool) (s : State) : (s.discardBuffer b).station = s.station := by
  simp only [State.discardBuffer]
  repeat' split
  all_goals simp
@[simp] theorem discardBuffer_start (b : List Bool) (s : State) : (s.discardBuffer b).start = s.start := by
  simp only [State.discardBuffer]
  repeat' split
  all_goals simp
@[simp] theorem discardBuffer_policy (b : List Bool) (s : State) : (s.discardBuffer b).policy = s.policy := by
  simp only [State.discardBuffer]
  repeat' split
  all_goals simp
@[simp] theorem discardBuffer_pins (b : List Bool) (s : State) : (s.discardBuffer b).pins = s.pins := by
  simp only [State.discardBuffer]
  repeat' split
  all_goals simp

@[simp] theorem lineStuck_pending (b : List Bool) (s : State) : (s.lineStuck b).pending = s.pending := by
  simp only [State.lineStuck]
  repeat' split
  all_goals simp [State.raise, Kind.severity, Kind.number]
@[simp] theorem lineStuck_clock (b : List Bool) (s : State) : (s.lineStuck b).clock = s.clock := by
  simp only [State.lineStuck]
  repeat' split
  all_goals simp [State.raise, Kind.severity, Kind.number]
@[simp] theorem lineStuck_gauge (b : List Bool) (s : State) : (s.lineStuck b).gauge = s.gauge := by
  simp only [State.lineStuck]
  repeat' split
  all_goals simp [State.raise, Kind.severity, Kind.number]
@[simp] theorem lineStuck_accrued (b : List Bool) (s : State) : (s.lineStuck b).accrued = s.accrued := by
  simp only [State.lineStuck]
  repeat' split
  all_goals simp [State.raise, Kind.severity, Kind.number]
@[simp] theorem lineStuck_port (b : List Bool) (s : State) : (s.lineStuck b).port = s.port := by
  simp only [State.lineStuck]
  repeat' split
  all_goals simp [State.raise, Kind.severity, Kind.number]
@[simp] theorem lineStuck_charger (b : List Bool) (s : State) : (s.lineStuck b).charger = s.charger := by
  simp only [State.lineStuck]
  repeat' split
  all_goals simp [State.raise, Kind.severity, Kind.number]
@[simp] theorem lineStuck_peers (b : List Bool) (s : State) : (s.lineStuck b).peers = s.peers := by
  simp only [State.lineStuck]
  repeat' split
  all_goals simp [State.raise, Kind.severity, Kind.number]
@[simp] theorem lineStuck_start (b : List Bool) (s : State) : (s.lineStuck b).start = s.start := by
  simp only [State.lineStuck]
  repeat' split
  all_goals simp [State.raise, Kind.severity, Kind.number]
@[simp] theorem lineStuck_policy (b : List Bool) (s : State) : (s.lineStuck b).policy = s.policy := by
  simp only [State.lineStuck]
  repeat' split
  all_goals simp [State.raise, Kind.severity, Kind.number]
@[simp] theorem lineStuck_pins (b : List Bool) (s : State) : (s.lineStuck b).pins = s.pins := by
  simp only [State.lineStuck]
  repeat' split
  all_goals simp [State.raise, Kind.severity, Kind.number]

@[simp] theorem inputOvervolt_pending (s : State) : s.inputOvervolt.pending = s.pending := by
  simp only [State.inputOvervolt]
  repeat' split
  all_goals simp [State.raise, Kind.severity, Kind.number]
@[simp] theorem inputOvervolt_clock (s : State) : s.inputOvervolt.clock = s.clock := by
  simp only [State.inputOvervolt]
  repeat' split
  all_goals simp [State.raise, Kind.severity, Kind.number]
@[simp] theorem inputOvervolt_gauge (s : State) : s.inputOvervolt.gauge = s.gauge := by
  simp only [State.inputOvervolt]
  repeat' split
  all_goals simp [State.raise, Kind.severity, Kind.number]
@[simp] theorem inputOvervolt_accrued (s : State) : s.inputOvervolt.accrued = s.accrued := by
  simp only [State.inputOvervolt]
  repeat' split
  all_goals simp [State.raise, Kind.severity, Kind.number]
@[simp] theorem inputOvervolt_apply (s : State) : s.inputOvervolt.apply = s.apply := by
  simp only [State.inputOvervolt]
  repeat' split
  all_goals simp [State.raise, Kind.severity, Kind.number]
@[simp] theorem inputOvervolt_charger (s : State) : s.inputOvervolt.charger = s.charger := by
  simp only [State.inputOvervolt]
  repeat' split
  all_goals simp [State.raise, Kind.severity, Kind.number]
@[simp] theorem inputOvervolt_peers (s : State) : s.inputOvervolt.peers = s.peers := by
  simp only [State.inputOvervolt]
  repeat' split
  all_goals simp [State.raise, Kind.severity, Kind.number]
@[simp] theorem inputOvervolt_station (s : State) : s.inputOvervolt.station = s.station := by
  simp only [State.inputOvervolt]
  repeat' split
  all_goals simp [State.raise, Kind.severity, Kind.number]
@[simp] theorem inputOvervolt_start (s : State) : s.inputOvervolt.start = s.start := by
  simp only [State.inputOvervolt]
  repeat' split
  all_goals simp [State.raise, Kind.severity, Kind.number]
@[simp] theorem inputOvervolt_policy (s : State) : s.inputOvervolt.policy = s.policy := by
  simp only [State.inputOvervolt]
  repeat' split
  all_goals simp [State.raise, Kind.severity, Kind.number]
@[simp] theorem inputOvervolt_pins (s : State) : s.inputOvervolt.pins = s.pins := by
  simp only [State.inputOvervolt]
  repeat' split
  all_goals simp [State.raise, Kind.severity, Kind.number]

@[simp] theorem hingeTrip_pending (s : State) : s.hingeTrip.pending = s.pending := by
  simp only [State.hingeTrip]
  repeat' split
  all_goals simp
@[simp] theorem hingeTrip_clock (s : State) : s.hingeTrip.clock = s.clock := by
  simp only [State.hingeTrip]
  repeat' split
  all_goals simp
@[simp] theorem hingeTrip_gauge (s : State) : s.hingeTrip.gauge = s.gauge := by
  simp only [State.hingeTrip]
  repeat' split
  all_goals simp
@[simp] theorem hingeTrip_accrued (s : State) : s.hingeTrip.accrued = s.accrued := by
  simp only [State.hingeTrip]
  repeat' split
  all_goals simp
@[simp] theorem hingeTrip_peers (s : State) : s.hingeTrip.peers = s.peers := by
  simp only [State.hingeTrip]
  repeat' split
  all_goals simp
@[simp] theorem hingeTrip_start (s : State) : s.hingeTrip.start = s.start := by
  simp only [State.hingeTrip]
  repeat' split
  all_goals simp
@[simp] theorem hingeTrip_policy (s : State) : s.hingeTrip.policy = s.policy := by
  simp only [State.hingeTrip]
  repeat' split
  all_goals simp
@[simp] theorem hingeTrip_pins (s : State) : s.hingeTrip.pins = s.pins := by
  simp only [State.hingeTrip]
  repeat' split
  all_goals simp

@[simp] theorem tripCell_pending (v : Nat) (i : Int) (s : State) : (s.tripCell v i).pending = s.pending := by
  simp only [State.tripCell]
  repeat' split
  all_goals simp
@[simp] theorem tripCell_clock (v : Nat) (i : Int) (s : State) : (s.tripCell v i).clock = s.clock := by
  simp only [State.tripCell]
  repeat' split
  all_goals simp
@[simp] theorem tripCell_gauge (v : Nat) (i : Int) (s : State) : (s.tripCell v i).gauge = s.gauge := by
  simp only [State.tripCell]
  repeat' split
  all_goals simp
@[simp] theorem tripCell_accrued (v : Nat) (i : Int) (s : State) : (s.tripCell v i).accrued = s.accrued := by
  simp only [State.tripCell]
  repeat' split
  all_goals simp
@[simp] theorem tripCell_peers (v : Nat) (i : Int) (s : State) : (s.tripCell v i).peers = s.peers := by
  simp only [State.tripCell]
  repeat' split
  all_goals simp
@[simp] theorem tripCell_start (v : Nat) (i : Int) (s : State) : (s.tripCell v i).start = s.start := by
  simp only [State.tripCell]
  repeat' split
  all_goals simp
@[simp] theorem tripCell_policy (v : Nat) (i : Int) (s : State) : (s.tripCell v i).policy = s.policy := by
  simp only [State.tripCell]
  repeat' split
  all_goals simp
@[simp] theorem tripCell_pins (v : Nat) (i : Int) (s : State) : (s.tripCell v i).pins = s.pins := by
  simp only [State.tripCell]
  repeat' split
  all_goals simp

@[simp] theorem enterReady_pending (s : State) : s.enterReady.pending = s.pending := by
  simp only [State.enterReady]
  repeat' split
  all_goals simp
@[simp] theorem enterReady_clock (s : State) : s.enterReady.clock = s.clock := by
  simp only [State.enterReady]
  repeat' split
  all_goals simp
@[simp] theorem enterReady_gauge (s : State) : s.enterReady.gauge = s.gauge := by
  simp only [State.enterReady]
  repeat' split
  all_goals simp
@[simp] theorem enterReady_accrued (s : State) : s.enterReady.accrued = s.accrued := by
  simp only [State.enterReady]
  repeat' split
  all_goals simp
@[simp] theorem enterReady_peers (s : State) : s.enterReady.peers = s.peers := by
  simp only [State.enterReady]
  repeat' split
  all_goals simp
@[simp] theorem enterReady_start (s : State) : s.enterReady.start = s.start := by
  simp only [State.enterReady]
  repeat' split
  all_goals simp
@[simp] theorem enterReady_policy (s : State) : s.enterReady.policy = s.policy := by
  simp only [State.enterReady]
  repeat' split
  all_goals simp
@[simp] theorem enterReady_pins (s : State) : s.enterReady.pins = s.pins := by
  simp only [State.enterReady]
  repeat' split
  all_goals simp

@[simp] theorem ready_pending (s : State) : s.ready.pending = s.pending := by
  simp only [State.ready]
  repeat' split
  all_goals simp
@[simp] theorem ready_clock (s : State) : s.ready.clock = s.clock := by
  simp only [State.ready]
  repeat' split
  all_goals simp
@[simp] theorem ready_gauge (s : State) : s.ready.gauge = s.gauge := by
  simp only [State.ready]
  repeat' split
  all_goals simp
@[simp] theorem ready_accrued (s : State) : s.ready.accrued = s.accrued := by
  simp only [State.ready]
  repeat' split
  all_goals simp
@[simp] theorem ready_peers (s : State) : s.ready.peers = s.peers := by
  simp only [State.ready]
  repeat' split
  all_goals simp
@[simp] theorem ready_start (s : State) : s.ready.start = s.start := by
  simp only [State.ready]
  repeat' split
  all_goals simp
@[simp] theorem ready_policy (s : State) : s.ready.policy = s.policy := by
  simp only [State.ready]
  repeat' split
  all_goals simp
@[simp] theorem ready_pins (s : State) : s.ready.pins = s.pins := by
  simp only [State.ready]
  repeat' split
  all_goals simp

@[simp] theorem endListen_pending (s : State) : s.endListen.pending = s.pending := by
  simp only [State.endListen]
  repeat' split
  all_goals simp
@[simp] theorem endListen_gauge (s : State) : s.endListen.gauge = s.gauge := by
  simp only [State.endListen]
  repeat' split
  all_goals simp
@[simp] theorem endListen_accrued (s : State) : s.endListen.accrued = s.accrued := by
  simp only [State.endListen]
  repeat' split
  all_goals simp
@[simp] theorem endListen_peers (s : State) : s.endListen.peers = s.peers := by
  simp only [State.endListen]
  repeat' split
  all_goals simp
@[simp] theorem endListen_policy (s : State) : s.endListen.policy = s.policy := by
  simp only [State.endListen]
  repeat' split
  all_goals simp
@[simp] theorem endListen_pins (s : State) : s.endListen.pins = s.pins := by
  simp only [State.endListen]
  repeat' split
  all_goals simp

@[simp] theorem endStraps_pending (a b c d : Fin 16) (f : Bool) (s : State) : (s.endStraps a b c d f).pending = s.pending := by
  simp only [State.endStraps]
  repeat' split
  all_goals simp
@[simp] theorem endStraps_clock (a b c d : Fin 16) (f : Bool) (s : State) : (s.endStraps a b c d f).clock = s.clock := by
  simp only [State.endStraps]
  repeat' split
  all_goals simp
@[simp] theorem endStraps_gauge (a b c d : Fin 16) (f : Bool) (s : State) : (s.endStraps a b c d f).gauge = s.gauge := by
  simp only [State.endStraps]
  repeat' split
  all_goals simp
@[simp] theorem endStraps_accrued (a b c d : Fin 16) (f : Bool) (s : State) : (s.endStraps a b c d f).accrued = s.accrued := by
  simp only [State.endStraps]
  repeat' split
  all_goals simp
@[simp] theorem endStraps_peers (a b c d : Fin 16) (f : Bool) (s : State) : (s.endStraps a b c d f).peers = s.peers := by
  simp only [State.endStraps]
  repeat' split
  all_goals simp
@[simp] theorem endStraps_policy (a b c d : Fin 16) (f : Bool) (s : State) : (s.endStraps a b c d f).policy = s.policy := by
  simp only [State.endStraps]
  repeat' split
  all_goals simp

@[simp] theorem endProfile_pending (p v : Nat) (s : State) : (s.endProfile p v).pending = s.pending := by
  simp only [State.endProfile]
  repeat' split
  all_goals simp
@[simp] theorem endProfile_clock (p v : Nat) (s : State) : (s.endProfile p v).clock = s.clock := by
  simp only [State.endProfile]
  repeat' split
  all_goals simp
@[simp] theorem endProfile_accrued (p v : Nat) (s : State) : (s.endProfile p v).accrued = s.accrued := by
  simp only [State.endProfile]
  repeat' split
  all_goals simp
@[simp] theorem endProfile_peers (p v : Nat) (s : State) : (s.endProfile p v).peers = s.peers := by
  simp only [State.endProfile]
  repeat' split
  all_goals simp
@[simp] theorem endProfile_policy (p v : Nat) (s : State) : (s.endProfile p v).policy = s.policy := by
  simp only [State.endProfile]
  repeat' split
  all_goals simp
@[simp] theorem endProfile_pins (p v : Nat) (s : State) : (s.endProfile p v).pins = s.pins := by
  simp only [State.endProfile]
  repeat' split
  all_goals simp

@[simp] theorem endCellCheck_pending (v : Nat) (t : Int) (s : State) : (s.endCellCheck v t).pending = s.pending := by
  simp only [State.endCellCheck]
  repeat' split
  all_goals simp
@[simp] theorem endCellCheck_clock (v : Nat) (t : Int) (s : State) : (s.endCellCheck v t).clock = s.clock := by
  simp only [State.endCellCheck]
  repeat' split
  all_goals simp
@[simp] theorem endCellCheck_gauge (v : Nat) (t : Int) (s : State) : (s.endCellCheck v t).gauge = s.gauge := by
  simp only [State.endCellCheck]
  repeat' split
  all_goals simp
@[simp] theorem endCellCheck_accrued (v : Nat) (t : Int) (s : State) : (s.endCellCheck v t).accrued = s.accrued := by
  simp only [State.endCellCheck]
  repeat' split
  all_goals simp
@[simp] theorem endCellCheck_peers (v : Nat) (t : Int) (s : State) : (s.endCellCheck v t).peers = s.peers := by
  simp only [State.endCellCheck]
  repeat' split
  all_goals simp
@[simp] theorem endCellCheck_policy (v : Nat) (t : Int) (s : State) : (s.endCellCheck v t).policy = s.policy := by
  simp only [State.endCellCheck]
  repeat' split
  all_goals simp
@[simp] theorem endCellCheck_pins (v : Nat) (t : Int) (s : State) : (s.endCellCheck v t).pins = s.pins := by
  simp only [State.endCellCheck]
  repeat' split
  all_goals simp

end Sys2Proof.Machine.State
end

