-- ==== Sys2Proof/Laws/Ops.lean ====
section
/-!
SUPPORT. What each shared operation can do, said once: the fields it writes as an equation, or the cases of its outcome. The
blocks an operation leaves alone are in Laws/Frames.lean. A proof cites these in place of unfolding the operation.
-/

namespace Sys2Proof.Machine

/-! ### Counters -/

/-- The two cases of R173. -/
theorem Counter.bump_cases (c : Counter) :
    (c.value < 127 ∧ c.bump = ⟨c.value + 1, c.overflow⟩) ∨ (127 ≤ c.value ∧ c.bump = ⟨c.value, true⟩) := by
  by_cases h : c.value < 127
  · exact .inl ⟨h, by simp [Counter.bump, h]⟩
  · exact .inr ⟨by omega, by simp [Counter.bump, h]⟩

namespace State

theorem count_eq (k : Corrected) (s : State) : s.count k = { s with fault := s.fault.count k } := rfl

theorem countIf_cases (b : Bool) (k : Corrected) (s : State) : s.countIf b k = if b then s.count k else s := rfl

/-! ### The transmit queue -/

/-- A post handed to the queue changes the line controller and, by TX_DROP, the fault unit alone (R140). -/
theorem handAlert_eq (a : AlertContents) (s : State) :
    s.handAlert a = { s with line := (s.handAlert a).line, fault := (s.handAlert a).fault } := by
  simp only [handAlert, countIf]
  repeat' split
  all_goals rfl

theorem handReply_eq (a : ReplyContents) (s : State) :
    s.handReply a = { s with line := (s.handReply a).line, fault := (s.handReply a).fault } := by
  simp only [handReply, countIf]
  repeat' split
  all_goals rfl

theorem handState_eq (p : OwnState) (s : State) :
    s.handState p =
      { s with line := (s.handState p).line, fault := (s.handState p).fault
               round := { s.round with held := (s.handState p).round.held } } := by
  simp only [handState, countIf]
  repeat' split
  all_goals rfl

/-- While the queue is closed nothing joins it (R128, R137). -/
theorem handAlert_closed (a : AlertContents) (s : State) (h : s.queueOpen = false) : s.handAlert a = s := by
  simp [handAlert, h]

theorem handReply_closed (a : ReplyContents) (s : State) (h : s.queueOpen = false) : s.handReply a = s := by
  simp [handReply, h]

theorem handState_closed (p : OwnState) (s : State) (h : s.queueOpen = false) : s.handState p = s := by
  simp [handState, h]

end State

/-- The cases in which a REPLY joins the queue (R140). -/
theorem LineController.takeReply_cases (r : ReplyContents) (l : LineController) :
    (l.waiting < 4 ∧ l.takeReply r = ({ l with replies := l.replies ++ [⟨r, 0⟩] }, false)) ∨
      (4 ≤ l.waiting ∧ l.takeReply r = (l, true)) := by
  by_cases h : l.waiting < 4
  · exact .inl ⟨h, by simp [LineController.takeReply, h]⟩
  · exact .inr ⟨by omega, by simp [LineController.takeReply, h]⟩

/-- A waiting STATE is replaced in place, with its seq and no aborts (R18). -/
theorem LineController.takeState_waiting (p : OwnState) (l : LineController) (q : Queued OwnState) (h : l.state = some q) :
    l.takeState p = ({ l with state := some ⟨p.withSeq q.post.contents.seq, 0⟩ }, false) := by
  simp [LineController.takeState, h]

/-- A STATE joins a queue of fewer than four in which none waits (R140). -/
theorem LineController.takeState_room (p : OwnState) (l : LineController) (h : l.state = none) (hw : l.waiting < 4) :
    l.takeState p = ({ l with state := some ⟨p, 0⟩ }, false) := by
  simp [LineController.takeState, h, hw]

/-- Removing a REPLY leaves the rest of the queue (R140). -/
theorem LineController.dropReply_some (l l' : LineController) (h : l.dropReply = some l') :
    l' = { l with replies := l.replies.dropLast } ∧ l.replies ≠ [] := by
  by_cases c : l.replies.length ≤ (if l.sending = some .reply then 1 else 0)
  · rw [LineController.dropReply, if_pos c] at h; cases h
  · rw [LineController.dropReply, if_neg c] at h
    refine ⟨(Option.some.inj h).symm, ?_⟩
    intro e
    simp [e] at c

/-- Removing the STATE leaves the rest of the queue (R140). -/
theorem LineController.dropState_some (l l' : LineController) (h : l.dropState = some l') :
    l' = { l with state := none } ∧ l.state.isSome ∧ l.sending ≠ some .state := by
  simp only [LineController.dropState] at h
  split at h
  · rename_i c
    exact ⟨(Option.some.inj h).symm, c.1, c.2⟩
  · cases h

/-- What the queue does with an ALERT beyond its posts: nothing (R140). -/
theorem LineController.takeAlert_frame (a : AlertContents) (l : LineController) :
    (l.takeAlert a).1.sending = l.sending ∧ (l.takeAlert a).1.receiveBuffer = l.receiveBuffer ∧
      (l.takeAlert a).1.idleUs = l.idleUs ∧ (l.takeAlert a).1.lowUs = l.lowUs ∧
      (l.takeAlert a).1.offering = l.offering ∧ (l.takeAlert a).1.stuck = l.stuck := by
  simp only [LineController.takeAlert]
  split
  · simp
  · split
    · rename_i h; rw [(l.dropReply_some _ h).1]; simp
    · split
      · rename_i h; rw [(l.dropState_some _ h).1]; simp
      · simp

/-! ### The log -/

/-- A kind joins the next set in its place and nothing leaves it (R167). -/
theorem mem_insertKind (k j : Kind) (l : List Kind) : j ∈ insertKind k l ↔ j = k ∨ j ∈ l := by
  induction l with
  | nil => simp [insertKind]
  | cons x xs ih =>
    simp only [insertKind]
    split
    · simp
    · split
      · rename_i h; simp [h]
      · simp [ih]; tauto

/-- The cases of R167: a kind changes the log of its class, or it is held already. -/
theorem ClassLog.add_cases (k : Kind) (r : FaultRecord) (log : ClassLog) :
    (log.first = none ∧ log.add k r = some ({ log with first := some r }, true)) ∨
    (∃ old, log.first = some old ∧ (old.kind = k ∨ k ∈ log.next) ∧ log.add k r = none) ∨
    (∃ old, log.first = some old ∧ old.kind ≠ k ∧ k ∉ log.next ∧
      log.add k r = some ({ log with next := insertKind k log.next }, false)) := by
  cases h : log.first with
  | none => exact .inl ⟨rfl, by simp [ClassLog.add, h]⟩
  | some old =>
    by_cases c : old.kind = k ∨ k ∈ log.next
    · exact .inr (.inl ⟨old, rfl, c, by simp only [ClassLog.add, h, if_pos c]⟩)
    · have d := not_or.mp c
      exact .inr (.inr ⟨old, rfl, d.1, d.2, by simp only [ClassLog.add, h, if_neg c]⟩)

@[simp] theorem FaultUnit.withLog_log (c : Class) (v : ClassLog) (f : FaultUnit) : (f.withLog c v).log c = v := by
  cases c <;> rfl

theorem FaultUnit.withLog_other (c d : Class) (v : ClassLog) (f : FaultUnit) (h : d ≠ c) :
    (f.withLog c v).log d = f.log d := by
  cases c <;> cases d <;> first | rfl | exact absurd rfl h

namespace State

/-- Logging a kind changes the fault unit and the line controller alone (R167 to R170). -/
theorem logKind_eq (k : Kind) (s : State) :
    s.logKind k = { s with line := (s.logKind k).line, fault := (s.logKind k).fault } := by
  simp only [logKind]
  split
  · rfl
  · split
    · rfl
    · rw [handAlert_eq]; rfl

/-- A kind of class DEGRADED has no effect beyond the log (R163). -/
theorem raise_degraded (k : Kind) (s : State) (h : k.severity = .degraded) : s.raise k = s.logKind k := by
  simp [raise, h]

/-- A kind of class HALTING acts on the station (R171). -/
theorem raise_halting (k : Kind) (s : State) (h : k.severity = .halting) :
    s.raise k = (s.logKind k).haltingEffect := by
  simp [raise, h]

theorem raiseAll_nil (s : State) : s.raiseAll [] = s := rfl

theorem raiseAll_cons (k : Kind) (ks : List Kind) (s : State) : s.raiseAll (k :: ks) = (s.raise k).raiseAll ks := rfl

/-! ### Sweeps -/

/-- The three cases of R3. -/
theorem requestSweep_cases (s : State) :
    ((s.station.state = .start ∨ s.station.state = .shelf) ∧ s.requestSweep = s) ∨
    (s.station.state ≠ .start ∧ s.station.state ≠ .shelf ∧ s.round.inFlight = true ∧
      s.requestSweep = { s with round := { s.round with earlyRequest := true } }) ∨
    (s.station.state ≠ .start ∧ s.station.state ≠ .shelf ∧ s.round.inFlight = false ∧
      s.requestSweep = { s with round := { s.round with timer := some s.start.straps.period, inFlight := true }
                                hinge := s.hinge.sweepBegins }) := by
  by_cases h : s.station.state = .start ∨ s.station.state = .shelf
  · exact .inl ⟨h, by simp [requestSweep, h]⟩
  · have d := not_or.mp h
    cases f : s.round.inFlight
    · exact .inr (.inr ⟨d.1, d.2, rfl, by simp [requestSweep, h, f, beginSweep, withRound]⟩)
    · exact .inr (.inl ⟨d.1, d.2, rfl, by simp [requestSweep, h, f, withRound]⟩)

/-! ### Applied setpoints -/

@[simp] theorem setDraw_draw (g : Nat) (s : State) : (s.setDraw g).apply.draw = g := by
  simp only [setDraw]; split <;> simp_all [handDraw, withApply]

@[simp] theorem setCharge_charge (c : Nat) (s : State) : (s.setCharge c).apply.charge = c := by
  simp only [setCharge]; split <;> simp_all [handCharge, withApply]

@[simp] theorem setLink_link (x : Int) (s : State) : (s.setLink x).apply.link = x := by
  simp only [setLink]; split <;> simp_all [handLink, withApply]

/-- What an applied draw writes: itself, its limit, and the limit at the input port stage (R59, R60). -/
theorem setDraw_eq (g : Nat) (s : State) :
    s.setDraw g =
      { s with apply := { s.apply with draw := g, drawMa := (s.setDraw g).apply.drawMa }
               port := { s.port with drawLimit := (s.setDraw g).port.drawLimit } } := by
  simp only [setDraw]
  split
  · rename_i h; subst h; rfl
  · rfl

/-- What an applied charge writes: itself, its limit, and the charger (R59, R120). -/
theorem setCharge_eq (c : Nat) (s : State) :
    s.setCharge c =
      { s with apply := { s.apply with charge := c, chargeMa := (s.setCharge c).apply.chargeMa }
               charger := (s.setCharge c).charger } := by
  simp only [setCharge]
  split
  · rename_i h; subst h; rfl
  · rfl

/-- What an applied link writes: itself, its limit, and the hinge link stage (R59, R82). -/
theorem setLink_eq (x : Int) (s : State) :
    s.setLink x =
      { s with apply := { s.apply with link := x, linkMa := (s.setLink x).apply.linkMa }
               hinge := (s.setLink x).hinge } := by
  simp only [setLink]
  split
  · rename_i h; subst h; rfl
  · rfl

/-- What a replacement of the proposal does to the apply unit (R62, R63, R64). -/
theorem replaceProposal_apply (r : Setting) (code : Nat) (s : State) :
    let a := (s.replaceProposal r code).apply
    a.proposal = r ∧ a.code = code ∧ a.posted = s.apply.posted ∧ a.draw = min s.apply.draw r.g.toNat ∧
      a.charge = min s.apply.charge r.c.toNat ∧ a.link = linkUnder s.apply.link r.x ∧
      a.unansweredHold = s.apply.unansweredHold ∧ a.rewritePending = s.apply.rewritePending := by
  simp only [replaceProposal]
  rw [setLink_eq, setCharge_eq, setDraw_eq]
  simp

/-- A full link judgement leaves the link as R67 finds it. -/
@[simp] theorem judgeLink_link (s : State) : s.judgeLink.apply.link = s.judgedLink := by
  simp [judgeLink]

/-- What a full link judgement writes (R67, R59). -/
theorem judgeLink_eq (s : State) :
    s.judgeLink =
      { s with apply := { s.apply with link := s.judgedLink, linkMa := s.judgeLink.apply.linkMa }
               hinge := s.judgeLink.hinge } :=
  setLink_eq _ _

end State

/-! ### The stages' hand-overs -/

/-- A link limit changes nothing at the hinge link stage but limit, threshold and lowering (R87). -/
theorem HingeStage.takeLimit_eq (limit : Nat) (h : HingeStage) :
    h.takeLimit limit =
      { h with limit := limit, threshold := (h.takeLimit limit).threshold, lowering := (h.takeLimit limit).lowering } := by
  simp only [HingeStage.takeLimit]
  split
  · rfl
  · split
    · rfl
    · have : limit = h.limit := by omega
      subst this; rfl

/-- A hand-over keeps barring and history, and keeps BARRED; outside it the link state follows the link (R82). -/
theorem HingeStage.hand_state (x : Int) (limit : Nat) (h : HingeStage) :
    (h.hand x limit).barring = h.barring ∧ (h.hand x limit).history = h.history ∧ (h.hand x limit).limit = limit ∧
      (h.hand x limit).link = if h.link = .barred then .barred else linkStateOf x := by
  have e := h.takeLimit_eq limit
  have e1 : (h.takeLimit limit).link = h.link := by rw [e]
  have e2 : (h.takeLimit limit).barring = h.barring := by rw [e]
  have e3 : (h.takeLimit limit).history = h.history := by rw [e]
  have e4 : (h.takeLimit limit).limit = limit := by rw [e]
  have e5 : linkStateOf 0 = .opened := rfl
  simp only [HingeStage.hand, e1]
  split
  · rename_i c
    refine ⟨e2, e3, e4, ?_⟩
    rcases c with c | c <;> simp [c]
  · rename_i c
    have d := not_or.mp c
    split
    · rename_i hx; subst hx; exact ⟨e2, e3, e4, by simp [d.1, e5]⟩
    · exact ⟨e2, e3, e4, by simp [d.1]⟩

/-- What a hand-over of a charge setpoint leaves at the charger (R120). -/
theorem Charger.hand_setpoint (st : StationState) (v : Int) (p ma : Nat) (c : Charger) :
    (c.hand st v p ma).setpoint = p ∧ (c.hand st v p ma).limitMa = ma ∧ (c.hand st v p ma).band = c.band ∧
      (c.hand st v p ma).timeoutHeld = c.timeoutHeld ∧ (c.hand st v p ma).ceilingLatch = c.ceilingLatch ∧
      (c.hand st v p ma).ceilingHolds = c.ceilingHolds ∧ (c.hand st v p ma).stay ≤ c.stay := by
  simp only [Charger.hand, Charger.leaveHoldOff, Charger.enterHoldOff]
  repeat' split
  all_goals simp

/-- The phases that one sweep can lead to from each (R119): at most one transition. -/
theorem Charger.transition_cases (p : Profile) (st : StationState) (ok : Bool) (i v : Int) (c : Charger) :
    let d := c.transition p st ok i v
    (c.phase = .holdOff → d.phase = .holdOff ∨ d.phase = .precharge ∨ d.phase = .bulk) ∧
      (c.phase = .precharge → d.phase = .precharge ∨ d.phase = .holdOff ∨ d.phase = .bulk) ∧
      (c.phase = .bulk → d.phase = .bulk ∨ d.phase = .holdOff ∨ d.phase = .taper) ∧
      (c.phase = .taper → d.phase = .taper ∨ d.phase = .holdOff ∨ d.phase = .full) ∧
      (c.phase = .full → d.phase = .full ∨ d.phase = .bulk) := by
  refine ⟨?_, ?_, ?_, ?_, ?_⟩ <;> intro h <;>
    simp only [Charger.transition, h, Charger.leaveHoldOff, Charger.enterHoldOff] <;>
    (repeat' split) <;> simp_all

/-- A sweep's units leave the count within its bounds, and the rest of the gauge but the overrun alone (R30). -/
theorem Gauge.addUnits_bounds (d : Int) (g : Gauge) :
    (g.addUnits d).1 = { g with count := (g.addUnits d).1.count, overrun := (g.addUnits d).1.overrun } ∧
      (g.addUnits d).1.count ≤ 10 * g.capacity ∧ (g.addUnits d).1.overrun ≤ 65535 := by
  refine ⟨rfl, ?_, ?_⟩ <;> simp only [Gauge.addUnits, Gauge.top] <;> omega

/-! ### Changes of station state -/

namespace State

/-- The crowd judgement changes the crowd mark and, at its rise, what logging CROWD changes (R155). -/
theorem judgeCrowd_station (s : State) :
    s.judgeCrowd.station = { s.station with crowd := decide (2 ≤ qualifying s.peers) } := by
  simp only [judgeCrowd]
  split
  · split
    · rename_i h1 h2
      have : s.station = { s.station with crowd := true } := by rw [← h2]
      simp [h1, ← this]
    · rename_i h1 h2
      simp [h1]
  · rename_i h
    simp [h]

/-- Entry into LATCHED (R171): the switch, the two setpoints and the station state. -/
theorem enterLatched_spec (s : State) :
    s.enterLatched.fault.dischargeClosed = false ∧ s.enterLatched.apply.charge = 0 ∧ s.enterLatched.apply.link = 0 ∧
      s.enterLatched.station = { s.station with state := .latched } ∧ s.enterLatched.charger.phase = .holdOff ∧
      s.enterLatched.charger.stay = 0 ∧ s.enterLatched.port = s.port.abortProbe ∧
      s.enterLatched.round.inFlight = true := by
  have hr (t : State) (h : t.station.state = .latched) : t.requestSweep.round.inFlight = true := by
    rcases t.requestSweep_cases with ⟨h1, -⟩ | ⟨-, -, h2, e⟩ | ⟨-, -, -, e⟩
    · simp_all
    · rw [e]; exact h2
    · rw [e]
  simp only [enterLatched]
  refine ⟨by simp, ?_, by simp, by simp [become], by simp [Charger.enterHoldOff], by simp [Charger.enterHoldOff],
    by simp, hr _ (by simp [become])⟩
  simp only [requestSweep_apply, requestSweepIf_apply, become_apply, withPort_apply, withCharger_apply]
  rw [setLink_eq]
  simp

/-- Entry into MUTE (R137, R161). -/
theorem enterMute_spec (s : State) :
    s.enterMute.station = { s.station with state := .mute } ∧ s.enterMute.apply.link = 0 ∧
      s.enterMute.line.waiting = 0 ∧ s.enterMute.line.sending = none ∧ s.enterMute.line.offering = false ∧
      s.enterMute.round.held = none ∧ s.enterMute.apply.rewritePending = false := by
  simp only [enterMute, requestSweepIf]
  split
  · refine ⟨by simp [become], by simp, by simp [LineController.emptied, LineController.waiting],
      by simp [LineController.emptied], by simp, ?_, by simp⟩
    generalize hu : State.withApply _ _ = u
    have : u.round.held = none := by subst hu; simp
    rcases u.requestSweep_cases with ⟨-, e⟩ | ⟨-, -, -, e⟩ | ⟨-, -, -, e⟩ <;> rw [e] <;> exact this
  · exact ⟨by simp [become], by simp, by simp [LineController.emptied, LineController.waiting],
      by simp [LineController.emptied], by simp, by simp, by simp⟩

/-- The two outcomes of the end of an event in SHELF (R159). -/
theorem settleShelf_cases (vIn : Nat) (s : State) :
    (s.station.state = .shelf ∧ s.station.off = false ∧ s.finalWaiting = false ∧ s.settleShelf vIn = s.switchOff vIn) ∨
      s.settleShelf vIn = s := by
  by_cases h : s.station.state = .shelf ∧ !s.station.off ∧ !s.finalWaiting
  · refine .inl ⟨h.1, by simpa using h.2.1, by simpa using h.2.2, by simp only [settleShelf, if_pos h]⟩
  · exact .inr (by simp only [settleShelf, if_neg h])

/-- Outside SHELF the end of an event changes nothing (R159). -/
theorem settleShelf_outside (vIn : Nat) (s : State) (h : s.station.state ≠ .shelf) : s.settleShelf vIn = s := by
  simp [settleShelf, h]

/-- The three cases of a QUERY heard (R179). -/
theorem takeQuery_cases (target : Byte) (act : State → State × ReplyContents) (s : State) (h : s.receiving = true) :
    (addressed s.start.straps.address target = false ∧ s.takeQuery target act = s.endReception) ∨
    (addressed s.start.straps.address target = true ∧ 2 ≤ s.line.replies.length ∧
      s.takeQuery target act = s.endReception.count .queryOverrun) ∨
    (addressed s.start.straps.address target = true ∧ s.line.replies.length < 2 ∧
      s.takeQuery target act = (act s.endReception).1.handReply (act s.endReception).2) := by
  have hl : s.endReception.line.replies = s.line.replies := rfl
  cases ha : addressed s.start.straps.address target
  · exact .inl ⟨rfl, by simp [takeQuery, h, ha]⟩
  · by_cases hq : 2 ≤ s.line.replies.length
    · exact .inr (.inl ⟨rfl, hq, by simp [takeQuery, h, ha, hl, hq]⟩)
    · exact .inr (.inr ⟨rfl, by omega, by simp [takeQuery, h, ha, hl, hq]⟩)

end State

/-! ### Idling -/

/-- Whatever the place, what is taken is one of the commands, and one of them is taken where there is any. -/
theorem pickOne_cases (n : Nat) (l : List Instr) :
    (l = [] ∧ pickOne n l = none) ∨ ∃ c ∈ l, pickOne n l = some c := by
  cases l with
  | nil => exact .inl ⟨rfl, rfl⟩
  | cons c cs =>
    have h : n % (c :: cs).length < (c :: cs).length := Nat.mod_lt _ (by simp)
    exact .inr ⟨_, List.getElem_mem h, by simp only [pickOne, List.getElem?_eq_getElem h]⟩

/-! ### The rail (R84) -/

/-- What a stage in SEND regulates to, on either side of its hold limit. -/
theorem HingeStage.pathMa_send (v : Int) (h : HingeStage) (hl : h.link = .send) :
    (v < 8200 ∧ h.pathMa v = (h.limit, h.limit)) ∨ (v = 8200 ∧ h.pathMa v = (0, h.limit)) ∨ (8200 < v ∧ h.pathMa v = (0, 0)) := by
  rcases lt_trichotomy v 8200 with d | d | d
  · exact .inl ⟨d, by simp [HingeStage.pathMa, hl, upperHoldMv, d]⟩
  · exact .inr (.inl ⟨d, by simp [HingeStage.pathMa, hl, upperHoldMv, d]⟩)
  · exact .inr (.inr ⟨d, by simp [HingeStage.pathMa, hl, upperHoldMv, not_lt.mpr d.le, d.ne']⟩)

/-- What a stage in RECEIVE regulates to, on either side of its hold limit. -/
theorem HingeStage.pathMa_receive (v : Int) (h : HingeStage) (hl : h.link = .receive) :
    (6800 < v ∧ h.pathMa v = (h.limit, h.limit)) ∨ (v = 6800 ∧ h.pathMa v = (0, h.limit)) ∨ (v < 6800 ∧ h.pathMa v = (0, 0)) := by
  rcases lt_trichotomy 6800 v with d | d | d
  · exact .inl ⟨d, by simp [HingeStage.pathMa, hl, lowerHoldMv, d]⟩
  · exact .inr (.inl ⟨d.symm, by simp [HingeStage.pathMa, hl, lowerHoldMv, ← d]⟩)
  · exact .inr (.inr ⟨d, by simp [HingeStage.pathMa, hl, lowerHoldMv, not_lt.mpr d.le, d.ne]⟩)

/-- With a stage in SEND against one in RECEIVE, the current of the table of R84 is one that both stages regulate to with the
rail where the table has it. -/
theorem railOutcome_crossing (a b : HingeStage) (ha : a.link = .send) (hb : b.link = .receive) (v : Int)
    (hv : (((railOutcome a.link b.link a.limit b.limit).1.mv.1 : Nat) : Int) ≤ v)
    (hw : v ≤ ((railOutcome a.link b.link a.limit b.limit).1.mv.2 : Nat)) :
    ∀ h ∈ [a, b], (h.pathMa v).1 ≤ (railOutcome a.link b.link a.limit b.limit).2 ∧
      (railOutcome a.link b.link a.limit b.limit).2 ≤ (h.pathMa v).2 := by
  simp only [railOutcome, ha, hb] at hv hw ⊢
  intro h hm
  rcases lt_trichotomy b.limit a.limit with c | c | c
  all_goals simp [c, not_lt.mpr c.le, RailVoltage.mv, upperHoldMv, lowerHoldMv] at hv hw ⊢
  all_goals
    rcases List.mem_cons.mp hm with rfl | hm
    · rcases h.pathMa_send v ha with ⟨d, e⟩ | ⟨d, e⟩ | ⟨d, e⟩ <;> simp only [e] <;> omega
    · rw [List.mem_singleton.mp hm]
      rcases b.pathMa_receive v hb with ⟨d, e⟩ | ⟨d, e⟩ | ⟨d, e⟩ <;> simp only [e] <;> omega

end Sys2Proof.Machine
end

