-- ==== Sys2Proof/WellFormed.lean ====
section
/-!
DEFINITION. Which commands are well formed: the values a command carries are ones the event can come with. A command that
is not well formed is no event of the part; its meaning then changes what the rules make of those values, which is
mostly nothing (notes/assumptions/2.md).
-/

namespace Sys2Proof

/-- Well-formedness of a command, row by row. -/
def Instr.wellFormed : Instr → Bool
  | .powerOnReset => true
  | .warmReset => true
  | .resetNRise => true
  | .strapsComplete _ _ _ _ _ => true
  | .profileComplete _ _ => true
  | .cellCheckComplete _ _ => true
  | .listenEnd => true
  | .ownRoundExpiry => true
  | .sweepComplete r => r.lag ≤ 8
  | .foldEdge _ => true
  | .foldWindowExpiry => true
  | .stateArrival source _ _ => source ≠ 7
  | .limit _ _ => true
  | .shelfOrder _ => true
  | .release => true
  | .readFirst _ argument => goodClass argument
  | .readNext _ argument => goodClass argument
  | .readCounters _ _ => true
  | .readFlags _ _ => true
  | .clearLog _ argument => goodClass argument
  | .clearCounters _ _ => true
  | .ackPin _ _ => true
  | .readProfile _ _ => true
  | .readStart _ _ => true
  | .badItem _ item argument => !goodItem item argument
  | .addressClash => true
  | .invalidPost bits => (validPost bits).isNone
  | .discardedPost bits => (validPost bits).isSome
  | .lineIdle => true
  | .ownStateSent _ => true
  | .alertSent => true
  | .replySent => true
  | .lostArbitration read => 1 ≤ read.length && read.length ≤ 8
  | .echoAbort read _ => 1 ≤ read.length && read.length ≤ 200
  | .lineStuck heard _ => heard.length ≤ 200
  | .shelfWaitExpiry _ => true
  | .wakeWaitingForHigh vIn => vIn < 3800
  | .wakeEvent (.input vIn) => 4300 ≤ vIn
  | .wakeEvent (.fold _) => true
  | .probeStepEnd => true
  | .probeComparatorTrip _ => true
  | .undervoltageTrip vIn => vIn < 3500
  | .inputOvervolt vIn => 14000 < vIn
  | .hingeTrip iHinge _ => 100 < iHinge.natAbs
  | .thresholdLowering => true
  | .cellOvervolt _ _ _ => true
  | .cellOvercurrent _ iCell _ => iCell < 0
  | .comparatorNoLongerAsserted _ _ => true

end Sys2Proof
end

