-- ==== Sys2Proof/Laws/PerInstr.lean ====
section
/-!
SUPPORT. The family `HeardWellFormed`, command by command: a command read from bits heard on the share line is well formed.
-/

namespace Sys2Proof.Laws.HeardWellFormed

/-- If the bits heard on the line are the command `i`, then `i` is well formed. -/
def Statement (i : Instr) : Prop :=
  ∀ (own : BitVec 3) (vIn : Nat) (bits : List Bool), commandOf own vIn bits = i → i.wellFormed = true

/-- A QUERY heard is a well-formed command, whatever its item and argument. -/
theorem queryCommand_wellFormed (target item argument : Byte) :
    (queryCommand target item argument).wellFormed = true := by
  unfold queryCommand
  by_cases h : goodItem item argument = true
  · simp only [h, if_true]
    unfold goodItem at h
    split at h <;> rename_i hi <;> simp_all [Instr.wellFormed]
  · simp [h, Instr.wellFormed]

/-- Bits heard are a well-formed command. -/
theorem commandOf_wellFormed (own : BitVec 3) (vIn : Nat) (bits : List Bool) :
    (commandOf own vIn bits).wellFormed = true := by
  cases h : validPost bits with
  | none => simp [commandOf, h, Instr.wellFormed]
  | some bs =>
    simp only [commandOf, h]
    repeat' split
    all_goals first | exact queryCommand_wellFormed _ _ _ | simp_all [Instr.wellFormed]

/-- Every command that is heard is well formed. -/
theorem holds (i : Instr) : Statement i := by
  rintro own vIn bits rfl
  exact commandOf_wellFormed own vIn bits

theorem powerOnReset : Statement .powerOnReset :=
  holds _

theorem warmReset : Statement .warmReset :=
  holds _

theorem resetNRise : Statement .resetNRise :=
  holds _

theorem strapsComplete : ∀ s0 s1 s2 s3 foldHigh, Statement (.strapsComplete s0 s1 s2 s3 foldHigh) := by
  intros
  exact holds _

theorem profileComplete : ∀ packId vCell, Statement (.profileComplete packId vCell) := by
  intros
  exact holds _

theorem cellCheckComplete : ∀ vCell tCell, Statement (.cellCheckComplete vCell tCell) := by
  intros
  exact holds _

theorem listenEnd : Statement .listenEnd :=
  holds _

theorem ownRoundExpiry : Statement .ownRoundExpiry :=
  holds _

theorem sweepComplete : ∀ readings, Statement (.sweepComplete readings) := by
  intros
  exact holds _

theorem foldEdge : ∀ rising, Statement (.foldEdge rising) := by
  intros
  exact holds _

theorem foldWindowExpiry : Statement .foldWindowExpiry :=
  holds _

theorem stateArrival : ∀ source post vIn, Statement (.stateArrival source post vIn) := by
  intros
  exact holds _

theorem limit : ∀ post vIn, Statement (.limit post vIn) := by
  intros
  exact holds _

theorem shelfOrder : ∀ vIn, Statement (.shelfOrder vIn) := by
  intros
  exact holds _

theorem release : Statement .release :=
  holds _

theorem readFirst : ∀ target argument, Statement (.readFirst target argument) := by
  intros
  exact holds _

theorem readNext : ∀ target argument, Statement (.readNext target argument) := by
  intros
  exact holds _

theorem readCounters : ∀ target argument, Statement (.readCounters target argument) := by
  intros
  exact holds _

theorem readFlags : ∀ target argument, Statement (.readFlags target argument) := by
  intros
  exact holds _

theorem clearLog : ∀ target argument, Statement (.clearLog target argument) := by
  intros
  exact holds _

theorem clearCounters : ∀ target argument, Statement (.clearCounters target argument) := by
  intros
  exact holds _

theorem ackPin : ∀ target argument, Statement (.ackPin target argument) := by
  intros
  exact holds _

theorem readProfile : ∀ target argument, Statement (.readProfile target argument) := by
  intros
  exact holds _

theorem readStart : ∀ target argument, Statement (.readStart target argument) := by
  intros
  exact holds _

theorem badItem : ∀ target item argument, Statement (.badItem target item argument) := by
  intros
  exact holds _

theorem addressClash : Statement .addressClash :=
  holds _

theorem invalidPost : ∀ bits, Statement (.invalidPost bits) := by
  intros
  exact holds _

theorem discardedPost : ∀ bits, Statement (.discardedPost bits) := by
  intros
  exact holds _

theorem lineIdle : Statement .lineIdle :=
  holds _

theorem ownStateSent : ∀ vIn, Statement (.ownStateSent vIn) := by
  intros
  exact holds _

theorem alertSent : Statement .alertSent :=
  holds _

theorem replySent : Statement .replySent :=
  holds _

theorem lostArbitration : ∀ read, Statement (.lostArbitration read) := by
  intros
  exact holds _

theorem echoAbort : ∀ read vIn, Statement (.echoAbort read vIn) := by
  intros
  exact holds _

theorem lineStuck : ∀ heard vIn, Statement (.lineStuck heard vIn) := by
  intros
  exact holds _

theorem shelfWaitExpiry : ∀ vIn, Statement (.shelfWaitExpiry vIn) := by
  intros
  exact holds _

theorem wakeWaitingForHigh : ∀ vIn, Statement (.wakeWaitingForHigh vIn) := by
  intros
  exact holds _

theorem wakeEvent : ∀ source, Statement (.wakeEvent source) := by
  intros
  exact holds _

theorem probeStepEnd : Statement .probeStepEnd :=
  holds _

theorem probeComparatorTrip : ∀ vIn, Statement (.probeComparatorTrip vIn) := by
  intros
  exact holds _

theorem undervoltageTrip : ∀ vIn, Statement (.undervoltageTrip vIn) := by
  intros
  exact holds _

theorem inputOvervolt : ∀ vIn, Statement (.inputOvervolt vIn) := by
  intros
  exact holds _

theorem hingeTrip : ∀ iHinge vIn, Statement (.hingeTrip iHinge vIn) := by
  intros
  exact holds _

theorem thresholdLowering : Statement .thresholdLowering :=
  holds _

theorem cellOvervolt : ∀ vCell iCell vIn, Statement (.cellOvervolt vCell iCell vIn) := by
  intros
  exact holds _

theorem cellOvercurrent : ∀ vCell iCell vIn, Statement (.cellOvercurrent vCell iCell vIn) := by
  intros
  exact holds _

theorem comparatorNoLongerAsserted : ∀ vCell iCell, Statement (.comparatorNoLongerAsserted vCell iCell) := by
  intros
  exact holds _

end Sys2Proof.Laws.HeardWellFormed
end

