-- ==== Sys2Proof/Tests/Slice0.lean ====
section
/-!
SUPPORT. The model's own tests. The expected values are those of the spec's worked examples and tables, named at each test; then
a witness for each obligation that has hypotheses: a state and operands that meet them, clause by clause.
-/

namespace Sys2Proof.Tests

set_option Elab.async false

open Sys2Proof Sys2Proof.Machine

/-! ### The states of the tests -/

/-- The next state of a command; every command has one. -/
def after (c : Instr) (s : State) : State :=
  match exec c s with
  | .next t => t
  | .fault _ => s
  | .refused _ => s

/-- Straps of the worked example of 01: address 0, input, profile 3, class 6000 mW, 200 ms, fold sensor; DEGRADED pin yes. -/
def straps : Straps := ⟨0, true, 3, 6000, 200, true, true⟩

/-- A station after READY, in the station state given. -/
def started (st : StationState) : State :=
  { State.reset with
    round := { RoundUnit.reset with timer := some 200, fold := .opened, stamp := 42 }
    gauge := { Gauge.reset with count := 9660, capacity := 2300, initPending := false }
    line := { LineController.reset with offering := true }
    station := { StationMachine.reset with state := st }
    start := { StartSequencer.reset with
      straps := straps, profile := 3, record := { StartRecord.cleared with stage := 5, profile := some 3 } }
    fault := { FaultUnit.reset with armed := true } }

/-- Station B's entry at station A, with the figures of case 1 of 03. -/
def peer : Entry :=
  ⟨1, false, 0, 5, .paired, .opened, true, Marks.noMarks, ⟨0, 2500, 610, 7000, 10000, 6000⟩, -3951, some 2500⟩

/-- A paired station. -/
def paired : State := { started .paired with peers := [peer] }

/-- A station with a sweep in flight. -/
def sweeping (s : State) : State := { s with round := { s.round with inFlight := true } }

/-- The readings of sweep 1 of the worked example of 01. -/
def readings : Readings := ⟨3850, 8950, 4000, 7400, 0, 1000, 1500, 0, 50, 77, 5⟩

/-- Own STATE contents. -/
def contents (setting : Setting) : StateContents :=
  ⟨17, .paired, .bulk, .holding, .opened, .opened, true, 0, Marks.noMarks, ⟨15000, 4000, 420, 9000, 12000, 6000⟩, setting⟩

/-- A station whose own STATE is in transmission. -/
def sendingState (setting : Setting) (s : State) : State :=
  { s with
    line := { s.line with state := some ⟨⟨contents setting, false⟩, 0⟩, sending := some .state }
    apply := { s.apply with proposal := setting }
    round := { s.round with composed := some (contents setting), seq := 17 } }

/-- The STATE post of station B in case 1 of 03. -/
def postB : StatePost :=
  ⟨6, 2, 0, 0, 0, 0, true, 0, Marks.noMarks, 0, 2500, 610, 7000, 10000, 6000, 0, 1451, BitVec.ofInt 16 (-3951)⟩

/-- An ALERT as contents of a queue. -/
def alert (k : Kind) : AlertContents := ⟨k, true, .solo, 42, 3850, 50⟩

/-- A REPLY as contents of a queue. -/
def reply (n : Byte) : ReplyContents := ⟨n, .ok, List.replicate 18 0⟩

/-- An empty LIMIT to every station. -/
def limitPost : LimitPost := ⟨7, 15000, 1000, 1, 0⟩

/-- A station in SHELF before switch-off, its final STATE in transmission. -/
def shelving : State :=
  let s := started .shelf
  { s with
    round := { s.round with timer := none }
    line := { s.line with state := some ⟨⟨{ contents .zero with station := .shelf }, true⟩, 0⟩, sending := some .state }
    station := { s.station with shelfWait := some 400 } }

/-- A station in SHELF after switch-off, waiting for an input. -/
def asleep : State :=
  let s := started .shelf
  { s with
    round := { s.round with timer := none }, station := { s.station with off := true }
    port := { s.port with wake := .waitingForHigh }, line := { s.line with offering := false } }

/-- A port probing at 1900 mA against 8950 mV, 1800 mA held. -/
def probing : State :=
  let s := started .solo
  { s with port := { s.port with
      port := .probing, switchClosed := true, attachMv := some 8950, step := some 1900, stepLeft := 9, lastHeld := some 1800 } }

/-- A latched station with plausible held readings at the bounds of R172. -/
def releasable : State :=
  let s := started .latched
  { s with
    round := { s.round with
      channels := { Channels.reset with vCell := ⟨true, some 2800⟩, tCell := ⟨true, some 110⟩ } }
    fault := { s.fault with dischargeClosed := false } }

/-! ### Well-formedness: one ill-formed command for each check, refused -/

theorem test_wellFormed_refuses :
    ([.sweepComplete { readings with lag := 9 }, .stateArrival 7 postB 0, .readFirst 0 3, .readNext 0 0, .clearLog 0 255,
      .badItem 0 3 0, .badItem 0 1 2, .invalidPost (bitsOfBytes (encodeQuery 0 4 0)), .discardedPost [],
      .lostArbitration [], .lostArbitration (List.replicate 9 true), .echoAbort [] 0, .echoAbort (List.replicate 201 true) 0,
      .lineStuck (List.replicate 201 false) 0, .wakeWaitingForHigh 3800, .wakeEvent (.input 4299), .undervoltageTrip 3500,
      .inputOvervolt 14000, .hingeTrip (-100) 0, .cellOvercurrent 3850 0 0] : List Instr).all
        (fun c => !c.wellFormed) = true := by
  decide +kernel

theorem test_wellFormed_accepts :
    ([.sweepComplete { readings with lag := 8 }, .stateArrival 6 postB 0, .readFirst 0 2, .readNext 0 1, .clearLog 0 1,
      .badItem 0 1 3, .badItem 0 10 0, .invalidPost [], .discardedPost (bitsOfBytes (encodeQuery 0 4 0)),
      .lostArbitration [true], .echoAbort (List.replicate 200 true) 0, .lineStuck [] 0, .wakeWaitingForHigh 3799,
      .wakeEvent (.input 4300), .undervoltageTrip 3499, .inputOvervolt 14001, .hingeTrip (-101) 0,
      .cellOvercurrent 3850 (-7501) 0] : List Instr).all Instr.wellFormed = true := by
  decide +kernel

/-! ### Posts and their commands -/

/-- R136's worked value: 7C 00 04 00 has the CRC ED, and QUERY item 4 to address 0 is READ_FLAGS. -/
theorem test_crc_and_query :
    crc [0x7C, 0x00, 0x04, 0x00] = 0xED#8 ∧
      commandOf 0 0 (bitsOfBytes [0x7C, 0x00, 0x04, 0x00, 0xED]) = .readFlags 0 0 ∧
      commandOf 0 0 (bitsOfBytes [0x7C, 0x00, 0x04, 0x00, 0xEC]) =
        .invalidPost (bitsOfBytes [0x7C, 0x00, 0x04, 0x00, 0xEC]) := by
  decide +kernel

/-- A LIMIT to every station, contract 15000 (3A98), ceiling 1000 (03E8), balance on: header 3C (kind 1, address 7). -/
theorem test_limit_bytes : (encodeLimit limitPost).dropLast = [0x3C, 7, 0x3A, 0x98, 0x03, 0xE8, 1, 0, 0] := by
  decide +kernel

/-- A STATE of B, written out by R143: header 44 (kind 2, address 1), marks 0, G, C and X with X = −3951 (F091). -/
theorem test_state_bytes :
    (encodeState 1 postB).dropLast =
      [0x44, 6, 2, 0x00, 0x08, 0, 0, 0, 0x09, 0xC4, 0x02, 0x62, 0x1B, 0x58, 0x27, 0x10, 0x17, 0x70, 0, 0, 0x05, 0xAB, 0xF0,
        0x91] := by
  decide +kernel

/-! ### Tables -/

/-- The OCV examples of R26. -/
theorem test_ocv : [3740, 3764, 3850, 3250, 4260, 3300, 4250].map qOcv = [350, 410, 583, 0, 1000, 0, 1000] := by decide

/-- The thresholds of R21 for profiles 0, 3, 7. -/
theorem test_derived : ([0, 3, 7] : List (Fin 9)).map (fun n =>
    let p := profileRow n
    (p.prechargeMa, p.rechargeMv, p.overvoltMv, p.overcurrentMa, p.deepMv)) =
      [(50, 4000, 4200, 3000, 3100), (230, 4350, 4550, 7500, 2800), (240, 4300, 4500, 9000, 2800)] := by
  decide

/-- The thresholds of R87. -/
theorem test_thresholds : [0, 270, 405, 533].map tripThreshold = [100, 424, 586, 739] := by decide

/-- The residue tables of R29. -/
theorem test_residue :
    let g : Gauge := { Gauge.reset with count := 100, residue := 354000 }
    let h : Gauge := { Gauge.reset with count := 100, residue := -240000 }
    ((g.integrate 1830 200).1.count, (g.integrate 1830 200).1.residue) = (102, 0) ∧
      ((h.integrate (-1200) 200).1.count, (h.integrate (-1200) 200).1.residue) = (99, -120000) := by
  decide

/-- The ceiling example of 07: q 800, 792, 780, 779 at a ceiling of 800. -/
theorem test_ceiling :
    latchJudged 800 800 false = true ∧ latchJudged 800 792 true = true ∧ latchJudged 800 780 true = true ∧
      latchJudged 800 779 true = false ∧ ceilingCondition 800 780 true = false ∧ ceilingCondition 800 779 false = true := by
  decide

/-! ### The allotment: cases 1 to 5 of 03 -/

/-- A figure set without marks. -/
def figs (address s l q cmax dmax h : Nat) : FigureSet :=
  ⟨address, ⟨s, l, q, cmax, dmax, h⟩, Marks.noMarks, true, false, none⟩

/-- A run's G, C, X of both stations, the shortfall of the first, and the code. -/
def summary (r : RunResult) : Setting × Setting × Int × Nat :=
  (r.first.setting, r.second.setting, r.first.shortfall, r.flags.code)

theorem test_allotment_cases :
    summary (pairedRun (figs 0 15000 4000 420 9000 12000 6000) (figs 1 0 2500 610 7000 10000 6000)) =
      (⟨15000, 7049, 3951⟩, ⟨0, 1451, -3951⟩, 0, 1) ∧
    summary (pairedRun (figs 0 15000 4000 420 9000 12000 6000) (figs 1 0 2500 610 7000 10000 3000)) =
      (⟨15000, 8000, 3000⟩, ⟨0, 500, -3000⟩, 0, 4) ∧
    summary (pairedRun (figs 0 0 9000 150 0 6000 6000) (figs 1 0 3000 700 0 10000 6000)) =
      (⟨0, -3000, -6000⟩, ⟨0, -9000, 6000⟩, 0, 4) ∧
    summary (pairedRun (figs 0 0 8000 500 0 3000 4000) (figs 1 0 1000 800 0 12000 4000)) =
      (⟨0, -3000, -4000⟩, ⟨0, -5000, 4000⟩, 1000, 6) := by
  decide +kernel

theorem test_allotment_solo :
    let marked : FigureSet := { figs 0 15000 9999 420 9000 12000 6000 with
      marks := { Marks.noMarks with l := true }, lastL := some 3600 }
    ((soloRun marked).1.setting, (soloRun marked).2.code) = (⟨12600, 9000, 0⟩, 5) ∧
    ((soloRun (figs 0 15000 4000 420 0 0 6000)).1.setting, (soloRun (figs 0 15000 4000 420 0 0 6000)).2.code) =
      (⟨4000, 0, 0⟩, 2) ∧
    ((soloRun (figs 0 0 4000 420 0 0 0)).1.setting, (soloRun (figs 0 0 4000 420 0 0 0)).2.code) = (⟨0, 0, 0⟩, 6) ∧
    ((soloRun (figs 0 0 4000 420 0 19250 0)).1.setting, (soloRun (figs 0 0 4000 420 0 19250 0)).2.code) =
      (⟨0, -4000, 0⟩, 0) := by
  decide +kernel

/-- The limits of case 1 (R60). -/
theorem test_limits :
    let a : State := { paired with round := { paired.round with
      channels := { Channels.reset with
        vCell := ⟨true, some 3850⟩, vIn := ⟨true, some 8950⟩, vHinge := ⟨true, some 7400⟩ } } }
    (a.chargeLimitOf 7049, a.linkLimitOf (-3951), a.drawLimitOf 15000, a.drawLimitOf 30000) = (1830, 533, 1675, 3000) := by
  decide +kernel

/-! ### Sweeps -/

/-- The station of the worked example of 01 in sweep 1. -/
def station1 : State :=
  let s := sweeping paired
  { s with
    policy := { s.policy with contract := some 15000 }
    port := { s.port with port := .holding, switchClosed := true, attachMv := some 9000 }
    charger := { s.charger with phase := .bulk }
    round := { s.round with seq := 17 } }

/-- Sweep 1 of 01. -/
theorem test_sweep1 :
    (after (.sweepComplete readings) station1).round.composed.map (fun c => (c.figures, c.seq)) =
      some (⟨15000, 4000, 420, 8855, 19250, 6000⟩, 17) := by
  decide +kernel

/-- Sweep 2 of 01: 47.0 °C, 52.0 °C and MOVING; then sweep 3: hinge sensor open and load 9400 mA. -/
theorem test_sweep2_sweep3 :
    let s2 := after (.sweepComplete { readings with tCell := 94, tHinge := 104 })
      { station1 with round := { station1.round with fold := .moving } }
    let s3 := after (.sweepComplete { readings with tCell := 94, tHinge := 400, iLoad := 9400 }) (sweeping s2)
    s2.round.composed.map (fun c => (c.figures.cmax, c.figures.h)) = some (4427, 1600) ∧
      s3.round.composed.map (fun c => (c.figures.l, c.figures.h, c.marks.l, c.marks.h, c.marks.s)) =
        some (4000, 750, true, true, false) ∧ s3.fault.Holds .sensorSuspect ∧ s3.round.lastL = some 4000 := by
  decide +kernel

/-- The learning example of 02: EMPTY at 2995 mV, −900 mA over 200 ms, from count 140 and residue −200000. -/
theorem test_empty :
    let g : Gauge := { Gauge.reset with count := 140, residue := -200000, capacity := 2300, previous := some 0 }
    ((g.integrate (-900) 200).1.count, (g.integrate (-900) 200).1.residue) = (139, -20000) ∧
      (let e := (g.sweep 3000 true (-900) 2995 200).1
       (e.count, e.residue, e.learning, e.q)) = (0, 0, true, 0) := by
  decide

/-- The precharge example of 07: the 1,800,000th ms is counted at a sweep, and the station latches. -/
theorem test_charge_timeout :
    let s := sweeping paired
    let t := after (.sweepComplete { readings with vCell := 2900, iCell := 229 })
      { s with
        clock := 205, gauge := { s.gauge with previous := some 0 }
        charger := { s.charger with phase := .precharge, prechargeTimer := 1799800, band := some .from10To45 } }
    t.station.state = .latched ∧ t.charger.phase = .holdOff ∧ t.charger.timeoutHeld = true ∧
      t.charger.prechargeTimer = 1800000 ∧ t.fault.Holds .chargeTimeout := by
  decide +kernel

/-- The overheating example of 10: station B latches at 61.0 °C with its hinge sensor open. -/
theorem test_overheat :
    let s := sweeping paired
    let b : State := { s with
      start := { s.start with profile := 2, straps := { straps with inputFitted := false, degradedPin := false } }
      port := { s.port with port := .absent }
      round := { s.round with stamp := 5120 }
      apply := { s.apply with charge := 1451, link := -3951, chargeMa := 366, linkMa := 533 }
      hinge := { s.hinge with link := .receive, limit := 533, sinceEntry := false } }
    let t := after (.sweepComplete { readings with tCell := 122, tHinge := 251, iLoad := 625 }) b
    t.fault.halting.first.map (fun r => (r.kind, r.station, r.phase)) = some (.cellHot, .paired, .holdOff) ∧
    t.fault.halting.first.map (fun r => (r.chargeMa, r.linkDir, r.linkMa)) = some (366, .receive, 533) ∧
    t.fault.degraded.first.map (fun r => (r.kind, r.station, r.chargeMa, r.linkDir)) =
      some (.sensorSuspect, .latched, 0, .none) ∧
    t.fault.degraded.next = [.loadShortfall] ∧ t.fault.allot = ⟨1, false⟩ ∧ t.fault.fltAsserted = true ∧
    t.accrued = ⟨true, true, false, false, false, false⟩ := by
  decide +kernel

/-! ### Posts heard -/

/-- Event 3 to 5 of the first sequence of 04, at A: B's post of −3951 raises the link to 3951 once A has posted it. -/
theorem test_arrival_links :
    let s : State := { sendingState ⟨15000, 7049, 3951⟩ paired with
      peers := [{ peer with x := -3000 }] }
    let t := after (.ownStateSent 0) s
    let u := after (.stateArrival 1 postB 0) t
    t.apply.link = 3000 ∧ t.hinge.link = .send ∧ u.apply.link = 3951 ∧ u.apply.proposal = ⟨15000, 7049, 3951⟩ := by
  decide +kernel

/-- R67 against R64 in the reversal of 04: a proposal of the other sign opens the link at once. -/
theorem test_reversal :
    let s : State := { paired with apply := { paired.apply with link := 3951 } }
    ((s.replaceProposal ⟨0, 0, -2000⟩ 0).apply.link, (s.replaceProposal ⟨0, 0, 3000⟩ 0).apply.link) = (0, 3000) := by
  decide +kernel

/-- The full queue of 08, row by row. -/
theorem test_full_queue :
    let l0 : LineController := { LineController.reset with
      state := some ⟨⟨{ contents .zero with seq := 40 }, false⟩, 0⟩, replies := [⟨reply 1, 0⟩, ⟨reply 2, 0⟩] }
    let l1 := l0.takeAlert (alert .cellHot)
    let l2 := l1.1.takeAlert (alert .cellDeep)
    let l3 := l2.1.takeAlert (alert .hingeTrip)
    let l4 := l3.1.takeState ⟨contents .zero, false⟩
    let l5 := l4.1.takeAlert (alert .crowd)
    let l6 := l5.1.takeAlert (alert .txFail)
    (l1.1.waiting, l1.2) = (4, false) ∧ (l2.1.replies.map (fun q => q.post.item), l2.2) = ([1], true) ∧
      (l3.1.replies, l3.2) = ([], true) ∧ (l4.1.state.map (fun q => q.post.contents.seq), l4.2) = (some 40, false) ∧
      (l5.1.state, l5.1.alerts.length, l5.2) = (none, 4, true) ∧ l6 = (l5.1, true) := by
  decide +kernel

/-- The READ_FIRST content of 11. -/
theorem test_read_first :
    (FaultRecord.mk .cellHot 5120 .paired .holdOff .absent .receive 4010 122 80 0 366 533 .receive).content =
      [3, 2, 0x00, 0x14, 0x00, 2, 0x00, 0x82, 0x0F, 0xAA, 202, 160, 0, 0, 0x01, 0x6E, 0x02, 0x15] := by
  decide +kernel

/-- READ_PROFILE for profile 3 with 2480 mAh learned, and READ_NEXT for kinds 7, 8, 10 and 18 (R181). -/
theorem test_read_profile_next :
    profileContent 3 2480 =
      [3, 0x08, 0xFC, 0x11, 0x62, 0x08, 0xFC, 115, 0x13, 0x88, 0x0B, 0xB8, 40, 47, 24, 0x09, 0xB0, 0] ∧
    nextContent [.hingeRepeat, .hingeTrip, .loadShortfall, .strapInvalid] =
      [0xC0, 0x02, 0x02, 0, 0, 0, 0, 0, 0, 0, 0, 0, 0, 0, 0, 0, 0, 0] := by
  decide +kernel

/-! ### Start, hinge, port, line, shelf -/

/-- A start (09): straps, profile by match (21.7 kΩ, 3740 mV of 02), cell check, LISTEN, READY. -/
theorem test_start :
    let s1 := after (.strapsComplete 1 0 5 1 true) State.reset
    let s2 := after (.profileComplete 217 3740) s1
    let s3 := after (.cellCheckComplete 3740 50) s2
    let s4 := after .listenEnd s3
    s1.start.straps = ⟨0, true, 0, 6000, 200, true, false⟩ ∧ s2.start.profile = 3 ∧ s2.gauge.count = 8050 ∧
      s3.start.listenLeft = some 400 ∧ s4.station.state = .solo ∧ s4.clock = 400 ∧ s4.round.inFlight = true ∧
      s4.start.record.stage = 5 := by
  decide +kernel

/-- Three trips of 05: at 1200, 1230 and 1262 the last escalates; at 1270 it would not. -/
theorem test_trips :
    let h1 := HingeStage.reset.trip 1200
    let h2 := h1.1.trip 1230
    (h1.1.barring, h1.2) = (.rounds 8, false) ∧ (h2.1.history, h2.2) = ([1200, 1230], false) ∧
      ((h2.1.trip 1262).1.barring, (h2.1.trip 1262).2) = (.untilRelease, true) ∧
      ((h2.1.trip 1270).1.barring, (h2.1.trip 1270).2) = (.rounds 8, false) ∧
      ((h2.1.trip 1270).1.trip 1290).1.history = [1230, 1270, 1290] ∧ ((h2.1.trip 1270).1.trip 1290).2 = true := by
  decide

/-- The probe of 06: the step of 1900 mA fails below 8234 mV, and the limit is 1800 mA. -/
theorem test_probe :
    (after (.probeComparatorTrip 8233) probing).port.probed = some 1800 ∧
      (after (.probeComparatorTrip 8234) probing).port.port = .probing ∧
      (after .probeStepEnd probing).port.step = some 2000 ∧ (after .probeStepEnd probing).clock = 9 := by
  decide +kernel

/-- The sag of 06: 8100 mV lowers 1800 mA to 1700 mA; 8600 mV does not. -/
theorem test_sag :
    let p : InputPort := { InputPort.reset with
      port := .holding, switchClosed := true, attachMv := some 8950, probed := some 1800 }
    (p.sweep none false ⟨true, some 8100⟩).1.probed = some 1700 ∧ (p.sweep none false ⟨true, some 8600⟩).1.probed = some 1800 ∧
      (p.sweep none false ⟨true, some 3799⟩).1.port = .detached := by
  decide

/-- The termination table of R121 for profile 3 (taper 115 mA). -/
theorem test_termination :
    let c : Charger := { Charger.reset with phase := .taper, termination := 1, limitMa := 500 }
    let p := profileRow 3
    [c.terminationJudged p true 114, c.terminationJudged p true (-1), c.terminationJudged p true 115,
      { c with limitMa := 114 }.terminationJudged p true 100, c.terminationJudged p false 100] = [2, 1, 0, 1, 1] := by
  decide

/-- A release from LATCHED at the bounds of R172, and one refused a degree warmer; SHELF and its switch-off; waking. -/
theorem test_release_and_shelf :
    (after .release releasable).station.state = .solo ∧
      (after .release { releasable with round := { releasable.round with
        channels := { releasable.round.channels with tCell := ⟨true, some 111⟩ } } }).station.state = .latched ∧
      (after (.shelfOrder 5000) paired).station.state = .shelf ∧
      (after (.ownStateSent 5000) shelving).port.wake = .waitingForLow ∧
      (after (.shelfWaitExpiry 4299) shelving).port.wake = .waitingForHigh ∧
      (after (.wakeEvent (.input 4300)) asleep).station.state = .start := by
  decide +kernel

/-- The line: a stuck line while PAIRED, also one that abandons a fourth abort, an idle line, and the fourth echo abort of an
ALERT. -/
theorem test_line :
    let q : State := { paired with line := { paired.line with alerts := [⟨alert .crowd, 3⟩], sending := some .alert } }
    let kinds (t : State) := (t.fault.degraded.first.map FaultRecord.kind, t.fault.degraded.next)
    (after (.lineStuck [true] 0) paired).station.state = .solo ∧ (after (.lineStuck [true] 0) paired).fault.line = ⟨1, false⟩ ∧
      kinds (after (.lineStuck [] 0) q) = (some .lineStuck, [.txFail]) ∧
      (after .lineIdle { q with line := { q.line with sending := none } }).line.sending = some .alert ∧
      (after (.echoAbort [true] 0) q).fault.Holds .txFail ∧ (after .alertSent q).line.alerts = [] ∧
      (after (.lostArbitration [false]) q).line.alerts = [⟨alert .crowd, 3⟩] := by
  decide +kernel

/-- The rail (R84): the hold limits of 8200 and 6800 mV, the weaker side's current, and RECEIVE against OPEN at most its own
limit; and the charger's voltage bound (R114). -/
theorem test_rail_and_bound :
    let h (k : LinkState) (n : Nat) : HingeStage := { HingeStage.reset with link := k, limit := n }
    [8199, 8200, 8201].map (h .send 533).pathMa = [(533, 533), (0, 533), (0, 0)] ∧
      [6799, 6800, 6801].map (h .receive 533).pathMa = [(0, 0), (0, 533), (533, 533)] ∧
      (railOutcome .send .receive 533 405, railOutcome .receive .opened 3 0) = ((.upperHold, 405), (.lowerHold, 3)) ∧
      [Phase.precharge, .bulk, .taper].map (fun p => ({ Charger.reset with phase := p, band := some .from45To55 }).voltageBound (profileRow 3)) =
        [.none, .atMost 4350, .heldAt 4350] := by
  decide

/-! ### Witnesses: states and operands that meet the hypotheses of the obligations, clause by clause -/

theorem test_w_StepRunsFrontCommand : ({ paired with pending := [.release, .lineIdle] } : State).pending = .release :: [.lineIdle] :=
  rfl

/-- IdleMillisecond: nothing waits; after the millisecond each of the timers stands at its end, the shelf wait at 1000; and with
all of them at their end already, no time passes and one command waits. -/
theorem test_w_IdleMillisecond :
    let s : State := { probing with
      round := { probing.round with timer := some 1, foldWindow := some 1 }, hinge := { probing.hinge with lowering := some 1 }
      start := { probing.start with listenLeft := some 1 }, port := { probing.port with stepLeft := 1 }
      line := { probing.line with idleUs := 240, alerts := [⟨alert .crowd, 0⟩] } }
    State.reset.pending = [] ∧
    (s.advance 1).due =
      [.ownRoundExpiry, .foldWindowExpiry, .probeStepEnd, .listenEnd, .thresholdLowering, .lineIdle] ∧
    ∀ place < 6, (pickOne place (s.advance 1).due).isSome = true := by
  refine ⟨rfl, rfl, ?_⟩
  decide +kernel

theorem test_w_shelfWaitOver :
    (({ shelving with station := { shelving.station with shelfWait := some 999 } } : State).advance 1).shelfWaitOver = true := by
  decide +kernel

theorem test_w_Resets : (after .warmReset paired).pins.resetNHigh = false ∧ State.reset.pins.resetNHigh = true := by
  decide +kernel

theorem test_w_ShelfExit :
    asleep.station.off = true ∧ asleep.port.wake = .waitingForHigh ∧ asleep.start.straps.foldFitted = true := by
  decide +kernel

/-- StrapsComplete: valid levels at the ends of their ranges, and each invalid field at its lowest level. -/
theorem test_w_StrapsComplete :
    State.reset.station.state = .start ∧ State.reset.start.record.stage = 1 ∧ State.reset.pins.resetNHigh = true ∧
      strapsInvalid 13 8 14 = false ∧ strapsInvalid 14 0 0 = true ∧ strapsInvalid 0 9 0 = true ∧ strapsInvalid 0 0 3 = true := by
  decide +kernel

/-- A station at the end of a stage of its start, with a strapped profile field. -/
def starting (stage : Nat) (field : Fin 16) : State :=
  { State.reset with start := { StartSequencer.reset with
      straps := { straps with profileField := field }, profile := 3, record := { StartRecord.cleared with stage := stage } } }

/-- ProfileComplete: the windows' ends match, 89 and 111 do not; a strapped field of 8 is taken and one of 9 is not. -/
theorem test_w_ProfileComplete :
    (starting 2 0).start.record.stage = 2 ∧ (starting 2 0).station.state = .start ∧
      [90, 110, 920, 89, 111].map (fun n => (after (.profileComplete n 3740) (starting 2 0)).start.profile) = [1, 1, 8, 0, 0] ∧
      [8, 9].map (fun f => (after (.profileComplete 0 0) (starting 2 f)).start.profile) = [8, 0] := by
  decide +kernel

/-- CellCheckComplete: both bounds of each window pass, and a step beyond each does not (profile 3). -/
theorem test_w_CellCheckComplete :
    (starting 3 3).start.record.stage = 3 ∧
      [(2800, -40), (4550, 120), (2799, 0), (4551, 0), (3000, -41), (3000, 121)].map
        (fun r => cellCheckPasses (profileRow 3) r.1 r.2) = [true, true, false, false, false, false] := by
  decide +kernel

/-- ListenEnd: with mute pending, with latch pending, with a partner, and alone. -/
theorem test_w_ListenEnd :
    let s := starting 4 3
    s.start.record.stage = 4 ∧ s.station.state = .start ∧ s.station.off = false ∧
      (after .listenEnd { s with station := { s.station with mutePending := true } }).station.state = .mute ∧
      (after .listenEnd { s with station := { s.station with latchPending := true } }).station.state = .latched ∧
      (after .listenEnd { s with peers := [peer] }).station.state = .paired ∧ (after .listenEnd s).station.state = .solo := by
  decide +kernel

/-- OwnRoundExpiry: the stamp wraps, a barring ends, and a partner of age 2 goes STALE. -/
theorem test_w_OwnRoundExpiry :
    let s : State := { paired with
      round := { paired.round with stamp := 16777215 }, hinge := { paired.hinge with barring := .rounds 1, link := .barred }
      peers := [{ peer with age := 2 }] }
    let t := after .ownRoundExpiry s
    s.round.timer = some 200 ∧ s.station.state = .paired ∧ s.partner.isSome = true ∧ t.round.stamp = 0 ∧
      t.hinge.link = .opened ∧ t.station.state = .solo ∧ t.fault.Holds .partnerLost ∧ t.peers.map Entry.stale = [true] := by
  decide +kernel

theorem test_w_FoldWindow :
    paired.station.off = false ∧ paired.start.straps.foldFitted = true ∧
      (after (.foldEdge false) paired).round.foldWindow = some 2000 ∧
      ({ paired with start := { paired.start with straps := { straps with foldFitted := false } } } : State).station.off = false ∧
      (after .foldWindowExpiry (after (.foldEdge false) paired)).round.fold = .closed := by
  decide +kernel

/-- SweepJudgesChannels, SweepComposes, SweepFigures and SweepGauge: a sweep in flight; both ends of a window are plausible, and
a reading beyond takes the nearer bound. -/
theorem test_w_sweeps :
    (sweeping paired).round.inFlight = true ∧ (sweeping paired).charger.termination ≤ 1 ∧
      [2000, 4800, 1999, 4801].map (fun x => (Channel.reset.judge 2000 4800 x)) =
        [⟨true, some 2000⟩, ⟨true, some 4800⟩, ⟨false, some 2000⟩, ⟨false, some 4800⟩] := by
  decide +kernel

/-- SweepComposes: no STATE waits and one joins with the counter's seq; one waits and is replaced with its seq kept; in MUTE
nothing joins. -/
theorem test_w_SweepComposes :
    let s := sweeping paired
    let w : State := { s with line := { s.line with state := some ⟨⟨{ contents .zero with seq := 40 }, false⟩, 2⟩ } }
    let seq (t : State) := (after (.sweepComplete readings) t).line.state.map (fun q => (q.post.contents.seq, q.aborts))
    s.receiving = true ∧ s.line.sending = none ∧ s.line.waiting < 4 ∧ seq s = some (0, 0) ∧ seq w = some (40, 0) ∧
      seq (sweeping (started .mute)) = none := by
  decide +kernel

/-- SweepGauge: a discharge at the cutoff, one above it, and a suspect current. -/
theorem test_w_SweepGauge :
    let t (v i : Int) := after (.sweepComplete { readings with vCell := v, iCell := i }) (sweeping paired)
    (t 3000 (-1)).gauge.count = 0 ∧ (t 3001 (-1)).gauge.count = 9660 ∧ (t 3850 8001).gauge.count = 9660 ∧
      (t 3850 8001).round.channels.iCell.plausible = false := by
  decide +kernel

/-- SweepGauge at entry into FULL: spans of 18400 and 27600 units (8 and 12 times 2300 mAh) are learned, one beyond each is
rejected; a count that reaches its top starts the overrun anew, and one that stands there passes 20 units, which GAUGE counts. -/
theorem test_w_SweepGauge_full_and_clip :
    let s := sweeping paired
    let ending : State := { s with charger := { s.charger with phase := .taper, termination := 1, limitMa := 500, band := some .from10To45 } }
    let full (open_ : Bool) (span : Int) : Nat × Nat × Bool × Nat :=
      let t := after (.sweepComplete { readings with iCell := 100 })
        { ending with gauge := { ending.gauge with learning := open_, span := span } }
      (t.gauge.capacity, t.gauge.count, t.gauge.learning, t.fault.gauge.value)
    let clip (count : Nat) : Nat × Nat × Nat :=
      let t := after (.sweepComplete { readings with iCell := 8000 })
        { s with clock := 1005, gauge := { s.gauge with count := count, overrun := 1, previous := some 100 } }
      (t.gauge.count, t.gauge.overrun, t.fault.gauge.value)
    full true 18400 = (1840, 18400, false, 0) ∧ full true 27600 = (2760, 27600, false, 0) ∧
      full true 18399 = (2300, 23000, false, 1) ∧ full true 27601 = (2300, 23000, false, 1) ∧
      full false 20000 = (2300, 23000, false, 0) ∧
      clip 22998 = (23000, 18, 0) ∧ clip 23000 = (23000, 21, 1) := by
  decide +kernel

/-- SweepPort: the clauses at their bounds; the attach count at the first and second sweep, and a suspect V_in, which leaves it;
the sag check of a probed limit. -/
theorem test_w_SweepPort :
    let s := sweeping (started .solo)
    let t (p : InputPort) (v : Int) : InputPort := (after (.sweepComplete { readings with vIn := v }) { s with port := p }).port
    let held : InputPort := { InputPort.reset with port := .holding, attachMv := some 5000, switchClosed := true }
    let probed (n : Nat) : InputPort := { held with probed := some n }
    (t held 3799).port = .detached ∧ (t held 3800).port = .holding ∧
      (t { InputPort.reset with port := .blocked } 12999).port = .detached ∧
      (t { InputPort.reset with port := .blocked } 13000).port = .blocked ∧
      (t { InputPort.reset with attachCount := 2 } 4300).port = .probing ∧
      (t { InputPort.reset with attachCount := 2 } 4299).port = .detached ∧
      [0, 1].map (fun n => (t { InputPort.reset with attachCount := n } 4300).attachCount) = [1, 2] ∧
      (t { InputPort.reset with attachCount := 1 } 16001).attachCount = 1 ∧
      [(1800, 4599), (1800, 4600), (500, 4599)].map (fun p => (t (probed p.1) p.2).probed) = [some 1700, some 1800, some 500] := by
  decide +kernel

/-- SweepLatches: a cell at 60.5 °C, one at 2799 mV, and a timer at its limit; a channel turned suspect, whose marks count a
run; and a shortfall. -/
theorem test_w_SweepLatches :
    let s := sweeping paired
    let short := after (.sweepComplete { readings with iLoad := 9000 }) (sweeping (started .solo))
    s.round.inFlight = true ∧ s.station.state = .paired ∧
      (after (.sweepComplete { readings with tCell := 121 }) s).fault.Holds .cellHot ∧
      (after (.sweepComplete { readings with vCell := 2799 }) s).fault.Holds .cellDeep ∧
      (after (.sweepComplete readings)
        { s with charger := { s.charger with bulkTimer := 14400000 } }).fault.Holds .chargeTimeout ∧
      (after (.sweepComplete { readings with tHinge := 251 }) s).fault.Holds .sensorSuspect ∧
      (after (.sweepComplete { readings with tHinge := 251 }) s).fault.allot = ⟨1, false⟩ ∧
      short.fault.Holds .loadShortfall ∧ short.fault.allot = ⟨0, false⟩ := by
  decide +kernel

/-- A charging station: the one of the worked example of 01 with a charge applied, in the phase given. -/
def charging (p : Phase) : State :=
  { station1 with
    apply := { station1.apply with charge := 400, chargeMa := 1000, proposal := ⟨15000, 400, 0⟩, posted := some ⟨15000, 400, 0⟩ }
    charger := { station1.charger with phase := p, setpoint := 400, limitMa := 1000, band := some .from10To45 } }

/-- SweepCharger: each row of R119 at its bound (profile 3: 3000, 4450, 4350 mV), a band that permits nothing, and a timer at its
limit. -/
theorem test_w_SweepCharger :
    let phase (s : State) (v t2 : Int) := (after (.sweepComplete { readings with vCell := v, tCell := t2, iCell := 114 }) s).charger.phase
    let ending : State := { charging .taper with charger := { (charging .taper).charger with termination := 1 } }
    let timer : State := { charging .bulk with charger := { (charging .bulk).charger with bulkTimer := 14400000 } }
    (charging .bulk).charger.setpoint = (charging .bulk).apply.charge ∧
      [2999, 3000].map (phase (charging .holdOff) · 50) = [.precharge, .bulk] ∧
      [2999, 3000].map (phase (charging .precharge) · 50) = [.precharge, .bulk] ∧
      [4449, 4450].map (phase (charging .bulk) · 50) = [.bulk, .taper] ∧ phase ending 4450 50 = .full ∧
      [4349, 4350].map (phase (charging .full) · 50) = [.bulk, .full] ∧
      [109, 110].map (phase (charging .bulk) 3850 ·) = [.bulk, .holdOff] ∧ phase timer 3850 50 = .holdOff := by
  decide +kernel

/-- SweepCharger: the ceiling latch with q 420, at ceilings of 420, 421 and 441, from either side; and the restart of the timers
after a stay of 600,000 ms in HOLD_OFF. -/
theorem test_w_SweepCharger_ceiling :
    let latch (ceiling : Nat) (before : Bool) := (after (.sweepComplete readings) { charging .bulk with
      policy := { (charging .bulk).policy with ceiling := ceiling }
      charger := { (charging .bulk).charger with ceilingLatch := before } }).charger.ceilingLatch
    let timer (stay : Nat) := (after (.sweepComplete readings) { charging .holdOff with
      charger := { (charging .holdOff).charger with bulkTimer := 7, stay := stay } }).charger.bulkTimer
    [latch 420 false, latch 421 false, latch 421 true, latch 440 true, latch 441 true, latch 1000 true] =
      [true, false, true, true, false, false] ∧ timer 599999 = 7 ∧ timer 600000 = 0 := by
  decide +kernel

/-- SweepUnanswered: limit 400 mA; 99 mA is short and 100 mA is not. -/
theorem test_w_SweepUnanswered :
    let p := sweeping paired
    let s : State := { p with
      hinge := { p.hinge with link := .send, limit := 400, limitDir := .send, sinceEntry := true, unanswered := 1 }
      apply := { p.apply with link := 3000 } }
    s.HingeSound ∧ 0 < s.hinge.limit ∧
      (after (.sweepComplete { readings with iHinge := 99 }) s).apply.unansweredHold = true ∧
      (after (.sweepComplete { readings with iHinge := 99 }) { s with hinge := { s.hinge with unanswered := 0 } }).hinge.unanswered = 1 ∧
      (after (.sweepComplete { readings with iHinge := 100 }) s).hinge.unanswered = 0 := by
  decide +kernel

/-- StateArrivalTaken and PartnerArrivalServed: a good post of the partner, the seq next and a gap, and posts whose fields no
P42 composes at the lowest such value of each. -/
theorem test_w_arrivals :
    let s : State := { paired with round := { paired.round with composed := some (contents .zero) } }
    s.receiving = true ∧ (1 : BitVec 3) ≠ s.start.straps.address ∧ (after (.stateArrival 1 postB 0) s).fault.line = ⟨0, false⟩ ∧
      (after (.stateArrival 1 { postB with seq := 7 } 0) s).fault.line = ⟨1, false⟩ ∧
      (after (.stateArrival 1 postB 0) s).station.state = .paired ∧
      (after (.stateArrival 1 postB 0) s).partner.map Entry.address = some 1 ∧
      (after (.stateArrival 1 postB 0) s).apply.proposal = ⟨15000, 7049, 3951⟩ ∧
      ([{ postB with station := 0 }, { postB with station := 5 }, { postB with phase := 5 }, { postB with port := 5 },
        { postB with outcome := 7 }] : List StatePost).all (fun p => !fieldsComposable p) = true := by
  decide +kernel

/-- LimitStores, LimitRoutesOrder and LimitFieldsStored: the bounds of the table of R177; and the port clauses: a contract ends a
probe, one of none begins a probe from HOLDING, but in LATCHED. -/
theorem test_w_limits :
    let held (st : StationState) : State := { started st with
      port := { (started st).port with port := .holding, attachMv := some 5000, switchClosed := true } }
    let none_ (st : StationState) := (after (.limit { limitPost with contract := 0xFFFF } 0) (held st)).port
    paired.receiving = true ∧ limitPost.target = 7 ∧ limitPost.order ≠ 1 ∧ limitPost.order ≠ 2 ∧
      ([0, 30000, 30001, 65534, 65535] : List Half).map contractStored = [some 0, some 30000, some 30000, some 30000, none] ∧
      ([499, 500, 1000, 1001] : List Half).map ceilingStored = [500, 500, 1000, 1000] ∧
      ([0, 1, 255] : List Byte).map balanceStored = [false, true, true] ∧
      ([0, 1, 2, 3, 255] : List Byte).map orderStored = [.none, .shelf, .release, .none, .none] ∧
      addressed 0 1 = false ∧ (started .mute).station.state ≠ .solo ∧ (started .mute).station.state ≠ .paired ∧
      (after (.limit limitPost 0) probing).port.probed = some 1800 ∧ (none_ .solo).step = some 500 ∧
      (none_ .latched).probed = some 500 ∧ (after (.limit limitPost 0) (held .solo)).port.port = .holding := by
  decide +kernel

/-- ShelfOrderEnters: a waiting STATE in transmission, one that only waits, and a stuck line. -/
theorem test_w_ShelfOrderEnters :
    let sending := sendingState .zero paired
    let waits : State := { sending with line := { sending.line with sending := none } }
    let stuck : State := { paired with line := { paired.line with stuck := true, offering := false } }
    sending.receiving = true ∧ sending.station.state = .paired ∧ (after (.shelfOrder 0) sending).round.held.isSome = true ∧
      (after (.shelfOrder 0) waits).line.state.map (fun q => q.post.final) = some true ∧
      (after (.shelfOrder 0) stuck).station.off = true := by
  decide +kernel

theorem test_w_ReleaseClearsBarring :
    (started .start).station.state = .start ∧ paired.station.state = .paired ∧ paired.hinge.barring = .rounds 0 ∧
      (after .release { paired with hinge := { paired.hinge with link := .barred, barring := .untilRelease } }).hinge.link =
        .opened := by
  decide +kernel

/-- ReleaseFromLatched: accepted at the bounds; with a barring, and with a port HOLDING on a probed limit. -/
theorem test_w_ReleaseFromLatched :
    releasable.station.state = .latched ∧ releasable.LinkBounded ∧ releasable.releaseAccepted = true ∧
      (after .release { releasable with
        port := { releasable.port with port := .holding, attachMv := some 5000, probed := some 900 } }).port.port = .probing := by
  decide +kernel

/-- ReadingQueries and ActingQueries: room; MUTE, in which an item acts and nothing joins; a full queue, in which it acts and
TX_DROP counts. -/
theorem test_w_queries :
    let mute : State := { started .mute with fault := { FaultUnit.reset with fltAsserted := true, link := ⟨5, false⟩ } }
    let full : State := { paired with line := { paired.line with alerts := List.replicate 4 ⟨alert .crowd, 0⟩ } }
    paired.receiving = true ∧ addressed 0 7 = true ∧ paired.line.replies.length < 2 ∧ mute.receiving = true ∧
      full.line.waiting = 4 ∧ full.line.replies.length < 2 ∧
      (after (.ackPin 0 0) mute).fault.fltAsserted = false ∧ (after (.clearCounters 0 0) mute).fault.link = ⟨0, false⟩ ∧
      (after (.ackPin 0 0) mute).line.replies = [] ∧ (after (.ackPin 0 0) mute).fault.line = ⟨0, false⟩ ∧
      (after (.readCounters 0 0) paired).line.replies.map (fun q => q.post.item) = [3] ∧
      (after (.clearCounters 0 0) full).fault.line = ⟨1, false⟩ ∧ (after (.clearCounters 0 0) full).line.replies = [] := by
  decide +kernel

/-- PostsNotTaken: bits of no valid post, a QUERY taken while two REPLY posts wait and one to another station, and a clash in
each kind of station state. -/
theorem test_w_PostsNotTaken :
    let full : State := { paired with line := { paired.line with replies := [⟨reply 1, 0⟩, ⟨reply 2, 0⟩] } }
    paired.receiving = true ∧ full.receiving = true ∧ validPost [true, false] = none ∧
      (after (.readFlags 0 0) full).fault.line = ⟨1, false⟩ ∧ (after (.readFlags 1 0) paired).line.replies = [] ∧
      [StationState.solo, .paired, .latched, .start, .shelf, .mute].map
        (fun st => (after .addressClash (started st)).station.state) = [.mute, .mute, .mute, .start, .shelf, .mute] ∧
      (after .addressClash (started .start)).station.mutePending = true := by
  decide +kernel

theorem test_w_LineIdleOffers :
    paired.receiving = true ∧
      (after .lineIdle { paired with line := { paired.line with stuck := true, offering := false } }).line.offering = true ∧
      (after .lineIdle { paired with line := { paired.line with replies := [⟨reply 1, 0⟩] } }).line.sending = some .reply ∧
      (after .lineIdle paired).line.sending = none := by
  decide +kernel

/-- OwnStateSentApplies: without and with a composition held meanwhile, and in LATCHED. -/
theorem test_w_OwnStateSentApplies :
    let s := sendingState ⟨15000, 7049, 0⟩ paired
    let h : State := { s with round := { s.round with held := some ⟨contents .zero, false⟩ } }
    s.receiving = true ∧ s.line.sending = some .state ∧ s.line.state.isSome = true ∧ s.line.waiting ≤ 4 ∧ s.ModesSound ∧
      (after (.ownStateSent 0) s).apply.charge = 7049 ∧ (after (.ownStateSent 0) s).line.state = none ∧
      (after (.ownStateSent 0) h).line.state.map (fun q => q.post.contents.seq) = some 18 ∧
      (after (.ownStateSent 0) (sendingState ⟨15000, 7049, 0⟩ (started .latched))).apply.charge = 0 := by
  decide +kernel

/-- OwnStateSentApplies in SHELF: the final STATE sent, at V_in just below 4300 mV and at it; and one held meanwhile, which
joins. -/
theorem test_w_OwnStateSentApplies_shelf :
    let h : State := { shelving with round := { shelving.round with held := some ⟨contents .zero, true⟩ } }
    shelving.station.state = .shelf ∧ shelving.receiving = true ∧ shelving.line.sending = some .state ∧
      shelving.ModesSound ∧ h.ModesSound ∧ shelving.round.held = none ∧
      (after (.ownStateSent 4299) shelving).port.wake = .waitingForHigh ∧
      (after (.ownStateSent 4300) shelving).port.wake = .waitingForLow ∧
      (after (.ownStateSent 0) h).line.state.map (fun q => q.post.final) = some true ∧
      (after (.ownStateSent 0) h).station.off = false := by
  decide +kernel

/-- ChargerHandOver: a rise from 0 at 2999 and at 3000 mV, one that is not permitted, the stay of R124 and a ms less, a fall to 0
and another change. -/
theorem test_w_ChargerHandOver :
    let s (v : Int) : State := { started .solo with
      round := { (started .solo).round with channels := { Channels.reset with vCell := ⟨true, some v⟩ } }
      charger := { Charger.reset with band := some .from10To45, bulkTimer := 7 } }
    let stays (n : Nat) : State := { s 3850 with charger := { (s 3850).charger with stay := n } }
    let cold : State := { s 3850 with charger := { (s 3850).charger with band := some .belowMinus20 } }
    let up := (s 3850).setCharge 7049
    let result (t : State) := (t.charger.phase, t.charger.setpoint)
    [2999, 3000].map (fun v => result ((s v).setCharge 7049)) = [(.precharge, 7049), (.bulk, 7049)] ∧
      result (cold.setCharge 7049) = (.holdOff, 7049) ∧ up.charger.limitMa = 1830 ∧
      [599999, 600000].map (fun n => ((stays n).setCharge 7049).charger.bulkTimer) = [7, 0] ∧
      result (up.setCharge 0) = (.holdOff, 0) ∧ result (up.setCharge 5000) = (.bulk, 5000) ∧ up.setCharge 7049 = up ∧
      (after (.ownStateSent 0) (sendingState ⟨15000, 7049, 0⟩ paired)).charger.setpoint = 7049 := by
  decide +kernel

theorem test_w_AlertAndReplySent :
    (after .alertSent { paired with line := { paired.line with alerts := [⟨alert .crowd, 0⟩], sending := some .alert } }).line.alerts =
        [] ∧
      (after .replySent { paired with line := { paired.line with replies := [⟨reply 1, 0⟩], sending := some .reply } }).line.replies =
        [] := by
  decide +kernel

/-- LostArbitrationKeepsPost: an ALERT; a STATE alone, with a rewrite pending, and with a composition held. -/
theorem test_w_LostArbitrationKeepsPost :
    let s := sendingState ⟨15000, 7049, 0⟩ paired
    let a : State := { paired with line := { paired.line with alerts := [⟨alert .crowd, 0⟩], sending := some .alert } }
    let seq (t : State) := t.line.state.map (fun q => q.post.contents.seq)
    a.receiving = true ∧ (after (.lostArbitration [false]) a).line.alerts.length = 1 ∧ s.line.state ≠ none ∧
      (after (.lostArbitration [false]) s).line.state = s.line.state ∧
      (after (.lostArbitration [false]) { s with apply := { s.apply with rewritePending := true, proposal := .zero } }).line.state.map
        (fun q => q.post.contents.setting) = some ⟨0, 0, 0⟩ ∧
      seq (after (.lostArbitration [false])
        { s with round := { s.round with held := some ⟨{ contents .zero with seq := 99 }, false⟩ } }) = some 17 := by
  decide +kernel

/-- EchoAbortCounts: a third and a fourth abort of each kind; a pending rewrite, and a composition held at either; TX_FAIL in
the log already. -/
theorem test_w_EchoAbortCounts :
    let abort := after (.echoAbort [true] 0)
    let a (n : Nat) : State := { paired with line := { paired.line with alerts := [⟨alert .crowd, n⟩], sending := some .alert } }
    let r (n : Nat) : State := { paired with line := { paired.line with
      replies := [⟨reply 1, n⟩, ⟨reply 2, 0⟩], sending := some .reply } }
    let s (n : Nat) : State := { paired with line := { paired.line with
      state := some ⟨⟨contents .zero, false⟩, n⟩, sending := some .state } }
    let held (n : Nat) : State := { s n with
      round := { (s n).round with held := some ⟨{ contents .zero with seq := 40 }, false⟩ } }
    let rewrite : State := { s 2 with apply := { (s 2).apply with rewritePending := true, proposal := ⟨1, 2, 3⟩ } }
    let post (t : State) := t.line.state.map fun q => (q.post.contents.seq, q.post.contents.setting, q.aborts)
    (a 2).receiving = true ∧ (abort (a 2)).line.alerts.map (fun q => q.aborts) = [3] ∧
      (abort (a 3)).line.alerts.map (fun q => (q.post.kind, q.aborts)) = [(.txFail, 0)] ∧ (abort (a 3)).fault.line = ⟨1, false⟩ ∧
      (abort ((a 3).logKind .txFail)).line.alerts.map (fun q => q.post.kind) = [.txFail] ∧
      (abort (r 2)).line.replies.map (fun q => q.aborts) = [3, 0] ∧ (abort (r 3)).line.replies = [⟨reply 2, 0⟩] ∧
      post (abort (s 2)) = some (17, ⟨0, 0, 0⟩, 3) ∧ post (abort rewrite) = some (17, ⟨1, 2, 3⟩, 3) ∧
      post (abort (held 2)) = some (17, ⟨0, 0, 0⟩, 0) ∧ post (abort (held 3)) = some (40, ⟨0, 0, 0⟩, 0) ∧
      (abort (s 3)).line.state = none := by
  decide +kernel

/-- EchoAbortCounts in SHELF: the fourth abort of the final STATE switches the stages off; a final STATE held meanwhile takes its
place, and is displaced in turn where the queue is full. -/
theorem test_w_EchoAbortCounts_shelf :
    let s : State := { shelving with line := { shelving.line with
      state := shelving.line.state.map fun q => { q with aborts := 3 } } }
    let h : State := { s with round := { s.round with held := some ⟨contents .zero, true⟩ } }
    s.receiving = true ∧ s.round.held = none ∧ s.line.state.map (fun q => q.post.final) = some true ∧
      (after (.echoAbort [true] 0) s).station.off = true ∧ (after (.echoAbort [true] 0) s).fault.Holds .txFail ∧
      (after (.echoAbort [true] 0) h).station.off = false ∧
      (after (.echoAbort [true] 0) h).line.state.map (fun q => q.aborts) = some 0 ∧
      (after (.echoAbort [true] 0)
        { h with line := { h.line with alerts := List.replicate 3 ⟨alert .crowd, 0⟩ } }).station.off = true := by
  decide +kernel

/-- LineStuckStops: each station state that receives; the post abandoned at its fourth abort, of each kind. -/
theorem test_w_LineStuckStops :
    let l := paired.line
    let fails (line : LineController) := decide ((after (.lineStuck [] 0) { paired with line := line }).fault.Holds .txFail)
    [StationState.solo, .paired, .latched, .shelf, .mute].map (fun st => (started st).receiving) = List.replicate 5 true ∧
      (after (.lineStuck [] 0) (started .mute)).station = (started .mute).station ∧
      (after (.lineStuck [] 0) shelving).station.off = true ∧
      [2, 3].map (fun n => fails { l with alerts := [⟨alert .crowd, n⟩], sending := some .alert }) = [false, true] ∧
      [2, 3].map (fun n => fails { l with replies := [⟨reply 1, n⟩], sending := some .reply }) = [false, true] ∧
      [2, 3].map (fun n => fails { l with state := some ⟨⟨contents .zero, false⟩, n⟩, sending := some .state }) = [false, true] := by
  decide +kernel

theorem test_w_ShelfWaitAndWakeDetector :
    shelving.station.shelfWait = some 400 ∧ shelving.station.off = false ∧
      shelving.line.state.map (fun q => q.post.final) = some true ∧ (after (.shelfWaitExpiry 0) shelving).clock = 600 ∧
      (after (.wakeWaitingForHigh 3799) { asleep with port := { asleep.port with wake := .waitingForLow } }).port.wake =
        .waitingForHigh := by
  decide +kernel

/-- ProbeSteps: the step of 2900 mA leads to 3000 mA, and that of 3000 mA ends the probe. -/
theorem test_w_ProbeSteps :
    let s (n : Nat) : State := { probing with port := { probing.port with step := some n, lastHeld := some (n - 100) } }
    probing.port.port = .probing ∧ probing.station.off = false ∧ probing.port.attachMv = some 8950 ∧ 8950 * 92 / 100 = 8234 ∧
      (after .probeStepEnd (s 2900)).port.step = some 3000 ∧ (after .probeStepEnd (s 3000)).port.probed = some 3000 := by
  decide +kernel

theorem test_w_InputComparatorsOpenPort :
    (after (.undervoltageTrip 3499) probing).port.port = .detached ∧ probing.receiving = true ∧
      (after (.inputOvervolt 14001) probing).port.port = .blocked ∧
      (after (.inputOvervolt 14001) (started .solo)).round.inFlight = false ∧
      (after (.inputOvervolt 14001) (started .solo)).port.port = .blocked := by
  decide +kernel

/-- HingeTripBars: a trip that escalates across the wrap of the stamp at 64 rounds, one at 65 that does not, and one within a
barring until release. -/
theorem test_w_HingeTripBars :
    let s (stamp : Nat) (history : List Nat) (b : Barring) : State := { paired with
      round := { paired.round with stamp := stamp }, hinge := { paired.hinge with history := history, barring := b } }
    paired.pins.resetNHigh = true ∧ paired.station.off = false ∧ paired.hinge.threshold = 100 ∧
      (after (.hingeTrip (-101) 0) (s 63 [16777215, 0] (.rounds 0))).hinge.barring = .untilRelease ∧
      (after (.hingeTrip 101 0) (s 64 [16777215, 0] (.rounds 0))).hinge.barring = .rounds 8 ∧
      (after (.hingeTrip 101 0) (s 64 [] .untilRelease)).hinge.barring = .untilRelease := by
  decide +kernel

theorem test_w_TripThreshold :
    let h : HingeStage := { HingeStage.reset with limit := 533, threshold := 739 }
    (h.takeLimit 534).threshold = 740 ∧ (h.takeLimit 532).threshold = 739 ∧ (h.takeLimit 532).lowering = some 2 ∧
      (after .thresholdLowering { paired with hinge := h.takeLimit 405 }).hinge.threshold = 586 := by
  decide +kernel

/-- CellComparatorsTrip: each comparator a step above its threshold, and at it, in each station state. -/
theorem test_w_CellComparatorsTrip :
    paired.fault.armed = true ∧ paired.station.state ≠ .shelf ∧ paired.fault.overvoltAsserted = false ∧
      (after (.cellOvervolt 4551 0 0) paired).station.state = .latched ∧ (after (.cellOvervolt 4550 0 0) paired) = paired ∧
      (after (.cellOvercurrent 3850 (-7501) 0) paired).fault.Holds .cellOvercurrent ∧
      (after (.cellOvercurrent 3850 (-7500) 0) paired) = paired ∧
      (after (.cellOvervolt 4551 0 0) { started .start with
        start := { (started .start).start with record := { StartRecord.cleared with stage := 3 } } }).station.latchPending = true ∧
      (after (.cellOvervolt 4551 0 0) (started .mute)).station.state = .mute := by
  decide +kernel

/-- LogTakesKind: an empty class, one that holds the kind, and one that takes it into its next set, with room in the queue. -/
theorem test_w_LogTakesKind :
    let s1 := paired.logKind .hingeTrip
    let s2 := s1.logKind .hingeRepeat
    paired.queueOpen = true ∧ paired.line.waiting < 4 ∧ s1.fault.degraded.first.map FaultRecord.kind = some .hingeTrip ∧
      s1.logKind .hingeTrip = s1 ∧ s2.fault.degraded.next = [.hingeRepeat] ∧ s2.logKind .hingeRepeat = s2 ∧
      s2.line.alerts.map (fun q => q.post.first) = [true, false] := by
  decide +kernel

/-- A queue of `n` ALERT posts and one REPLY where `r` says so, with or without a STATE, and a transmission. -/
def queueOf (n : Nat) (r st : Bool) (k : Option PostKind) : LineController :=
  { LineController.reset with
    alerts := List.replicate n ⟨alert .crowd, 0⟩, replies := if r then [⟨reply 1, 0⟩] else [], sending := k
    state := if st then some ⟨⟨contents .zero, false⟩, 0⟩ else none }

/-- QueueTakesAlert: sound queues of three; full with a free REPLY; full with its REPLY in transmission and a STATE; full with
the STATE in transmission; full of ALERT posts. -/
theorem test_w_QueueTakesAlert :
    [queueOf 3 false false none, queueOf 3 true false none, queueOf 2 true true (some .reply), queueOf 3 false true (some .state),
      queueOf 4 false false none].map (fun l => (decide l.Sound, l.waiting, (l.takeAlert (alert .txFail)).2)) =
      [(true, 3, false), (true, 4, true), (true, 4, true), (true, 4, true), (true, 4, true)] := by
  decide +kernel

/-- CounterSaturates: 126 counts, 127 stands with its flag. -/
theorem test_w_CounterSaturates :
    (⟨126, false⟩ : Counter).bump = ⟨127, false⟩ ∧ (⟨127, false⟩ : Counter).bump = ⟨127, true⟩ ∧
      (⟨127, true⟩ : Counter).bump = ⟨127, true⟩ := by
  decide

/-- LinkCompared: each row of the table of R64, in both directions, at its bound. -/
theorem test_w_LinkCompared :
    [(0, 5), (3000, 2999), (3000, 3000), (3000, 0), (-3000, -2999), (-3000, -3000), (-3000, 0)].map
      (fun p => linkUnder p.1 p.2) = [0, 2999, 3000, 0, -2999, -3000, 0] := by
  decide

/-- LimitsWithinPower: V_in at 1000 mV gives a limit, at 999 mV none. -/
theorem test_w_LimitsWithinPower :
    [999, 1000].map (fun v => limitAt ⟨true, some v⟩ 500) = [0, 500] ∧ limitAt ⟨false, some 5000⟩ 500 = 0 := by
  decide

theorem test_w_allotment :
    (figs 0 15000 4000 1000 9000 12000 6000).figures.q ≤ 1000 ∧
      (figs 0 0 0 0 0 0 0).address < (figs 1 0 0 0 0 0 0).address := by
  decide

/-- PostsRoundTrip: addresses 0 and 6 are neither 7 nor each other's. -/
theorem test_w_PostsRoundTrip : (0 : BitVec 3) ≠ 7 ∧ (6 : BitVec 3) ≠ 0 ∧ (6 : BitVec 3) ≠ 7 := by decide

/-- A paired station with its link up, a transmission running and a full counter. -/
def linked : State :=
  { paired with
    apply := { paired.apply with
      proposal := ⟨15000, 7049, 3951⟩, posted := some ⟨15000, 7049, 3951⟩, draw := 15000, charge := 7049, link := 3951
      chargeMa := 1830 }
    charger := { paired.charger with setpoint := 7049, limitMa := 1830 }
    hinge := { paired.hinge with link := .send, limit := 533, history := [3, 7] }
    line := { paired.line with alerts := [⟨alert .crowd, 3⟩], sending := some .alert }
    fault := { paired.fault with line := ⟨127, true⟩ } }

/-- The invariants hold of it: the hypotheses of StepKeeps… are met where the state is none that reset leaves. -/
theorem test_w_StepKeeps_faults : linked.fault.CountersSound ∧ linked.fault.LogSound ∧ linked.line.Sound := by decide +kernel

theorem test_w_StepKeeps_modes : linked.ModesSound ∧ linked.PortSound ∧ linked.HingeSound := by decide +kernel

theorem test_w_StepKeeps_setpoints : linked.LinkBounded ∧ linked.DrawBounded ∧ linked.ChargeBounded := by decide +kernel

theorem test_w_StepKeeps_rest : linked.ChargerSound ∧ linked.gauge.Sound ∧ linked.PeersSound := by
  decide +kernel

theorem test_w_StepKeeps_round : linked.RoundSound := by decide +kernel

/-- And a step from it goes on, to another state. -/
theorem test_w_StepKeeps_step :
    step { linked with pending := [.echoAbort [true] 0] } = .next (after (.echoAbort [true] 0) linked) ∧
      (after (.echoAbort [true] 0) linked).fault.Holds .txFail := by
  refine ⟨rfl, ?_⟩
  decide +kernel

end Sys2Proof.Tests
end

section
open Sys2Proof Sys2Proof.Machine

/-- Settles O4: the reset state is concrete, so every value stands there by computation and every bound is decided. -/
theorem resetValues : Obligations.ResetValues := by
  have sound : State.reset.Sound := by constructor <;> decide
  have fresh : ∀ c ∈ State.reset.round.channels.all, c.plausible = true ∧ c.held = none := by decide
  unfold Obligations.ResetValues
  refine ⟨rfl, rfl, rfl, rfl, fresh, ?_⟩
  and_intros
  on_goal -1 => exact sound
  all_goals rfl
end

section
/-!
SUPPORT. The part of a state that ModesSound, PortSound, RoundSound and PeersSound read, its posture, and which of the shared
operations leave it alone.
-/

namespace Sys2Proof.Machine

/-- The input port stage less what its soundness does not read. -/
def InputPort.form (p : InputPort) : InputPort :=
  { p with stepLeft := 0, drawLimit := 0, wake := .off }

/-- What the invariants of modes, port, round and peers read of a state. -/
structure Posture where
  state : StationState
  off : Bool
  timer : Option Nat
  inFlight : Bool
  stamp : Nat
  seq : Nat
  foldWindow : Option Nat
  lastL : Option Nat
  channels : Channels
  offering : Bool
  proposal : Setting
  straps : Straps
  strapped : Bool
  resetNHigh : Bool
  port : InputPort
  peers : List Entry

/-- What the queue does with a REPLY beyond its posts: nothing (R140). -/
@[simp] theorem LineController.takeReply_offering (r : ReplyContents) (l : LineController) :
    (l.takeReply r).1.offering = l.offering := by
  rcases l.takeReply_cases r with ⟨-, e⟩ | ⟨-, e⟩ <;> rw [e]

/-- What the queue does with a STATE beyond its posts: nothing (R18, R140). -/
theorem LineController.takeState_frame (p : OwnState) (l : LineController) :
    (l.takeState p).1.offering = l.offering ∧ (l.takeState p).1.sending = l.sending ∧
      (l.takeState p).1.alerts = l.alerts ∧ (l.takeState p).1.stuck = l.stuck := by
  simp only [LineController.takeState]
  split
  · simp
  · split
    · simp
    · split
      · rename_i h; rw [(l.dropReply_some _ h).1]; simp
      · simp

namespace State

/-- The posture of a state. -/
def posture (s : State) : Posture where
  state := s.station.state
  off := s.station.off
  timer := s.round.timer
  inFlight := s.round.inFlight
  stamp := s.round.stamp
  seq := s.round.seq
  foldWindow := s.round.foldWindow
  lastL := s.round.lastL
  channels := s.round.channels
  offering := s.line.offering
  proposal := s.apply.proposal
  straps := s.start.straps
  strapped := s.strapped
  resetNHigh := s.pins.resetNHigh
  port := s.port.form
  peers := s.peers

/-- `t` keeps what holds of `s`: the modes, and with them the port, the round and the peers. -/
structure Keeps (s t : State) : Prop where
  modes : s.ModesSound → t.ModesSound
  port : s.ModesSound → s.PortSound → t.PortSound
  round : s.ModesSound → s.RoundSound → t.RoundSound
  peers : s.ModesSound → s.PeersSound → t.PeersSound

theorem Keeps.refl (s : State) : Keeps s s :=
  ⟨id, fun _ => id, fun _ => id, fun _ => id⟩

theorem Keeps.trans {s t u : State} (h : Keeps s t) (k : Keeps t u) : Keeps s u where
  modes m := k.modes (h.modes m)
  port m p := k.port (h.modes m) (h.port m p)
  round m p := k.round (h.modes m) (h.round m p)
  peers m p := k.peers (h.modes m) (h.peers m p)

/-- A state whose modes are sound may be assumed. -/
theorem Keeps.of_modes {s t : State} (h : s.ModesSound → Keeps s t) : Keeps s t :=
  ⟨fun m => (h m).modes m, fun m => (h m).port m, fun m => (h m).round m, fun m => (h m).peers m⟩

/-- The four invariants speak of the posture alone. -/
theorem Keeps.of_posture {s t : State} (h : t.posture = s.posture) : Keeps s t := by
  obtain ⟨h1, h2, h3, h4, h5, h6, h7, h8, h9, h10, h11, h12, h13, h14, h15, h16⟩ :=
    (Posture.mk.injEq ..).mp h
  refine ⟨fun m => ?_, fun _ p => ?_, fun _ r => ?_, fun _ p => ?_⟩
  · simpa only [ModesSound, h1, h2, h3, h4, h10, h11, h13, h14] using m
  · have sound : t.port.Sound := by
      have : t.port.form.Sound := by rw [h15]; exact p.1
      exact this
    have port : t.port.port = s.port.port := show t.port.form.port = s.port.form.port by rw [h15]
    have closed : t.port.switchClosed = s.port.switchClosed :=
      show t.port.form.switchClosed = s.port.form.switchClosed by rw [h15]
    refine ⟨sound, ?_, ?_⟩
    · rw [h13, port]; exact p.2.1
    · rw [closed, InputPort.attached, port, h2]; exact p.2.2
  · simpa only [RoundSound, h3, h5, h6, h7, h8, h9, h12] using r
  · simpa only [PeersSound, h12, h13, h16] using p

/-- What is kept from a state of the same posture on. -/
theorem Keeps.after {s t u : State} (k : Keeps t u) (h : t.posture = s.posture) : Keeps s u :=
  (Keeps.of_posture h).trans k

/-! ### Operations that leave the posture -/

@[simp] theorem count_posture (k : Corrected) (s : State) : (s.count k).posture = s.posture := by simp [posture, strapped]

@[simp] theorem countIf_posture (b : Bool) (k : Corrected) (s : State) : (s.countIf b k).posture = s.posture := by
  simp [posture, strapped]

/-- The queue takes an ALERT without touching the offer (R139, R140). -/
@[simp] theorem handAlert_offering (a : AlertContents) (s : State) :
    (s.handAlert a).line.offering = s.line.offering := by
  simp only [handAlert]
  split
  · simpa using (s.line.takeAlert_frame a).2.2.2.2.1
  · rfl

@[simp] theorem handAlert_posture (a : AlertContents) (s : State) : (s.handAlert a).posture = s.posture := by
  simp [posture, strapped]

@[simp] theorem handReply_posture (r : ReplyContents) (s : State) : (s.handReply r).posture = s.posture := by
  simp only [handReply]
  split <;> simp [posture, strapped]

@[simp] theorem handState_posture (p : OwnState) (s : State) : (s.handState p).posture = s.posture := by
  simp only [handState]
  split
  · split
    · rfl
    · simp [posture, strapped, (s.line.takeState_frame p).1]
  · rfl

@[simp] theorem logKind_posture (k : Kind) (s : State) : (s.logKind k).posture = s.posture := by
  simp only [logKind]
  split
  · rfl
  · split
    · rfl
    · rw [handAlert_posture]; rfl

@[simp] theorem handDraw_posture (s : State) : s.handDraw.posture = s.posture := rfl

@[simp] theorem handCharge_posture (s : State) : s.handCharge.posture = s.posture := rfl

@[simp] theorem handLink_posture (s : State) : s.handLink.posture = s.posture := rfl

@[simp] theorem handAll_posture (s : State) : s.handAll.posture = s.posture := rfl

@[simp] theorem setDraw_posture (g : Nat) (s : State) : (s.setDraw g).posture = s.posture := by
  rw [setDraw_eq]; rfl

@[simp] theorem setCharge_posture (c : Nat) (s : State) : (s.setCharge c).posture = s.posture := by
  rw [setCharge_eq]; rfl

@[simp] theorem setLink_posture (x : Int) (s : State) : (s.setLink x).posture = s.posture := by
  rw [setLink_eq]; rfl

@[simp] theorem judgeLink_posture (s : State) : s.judgeLink.posture = s.posture := setLink_posture _ _

@[simp] theorem accrue_posture (f : OutcomeFlags) (s : State) : (s.accrue f).posture = s.posture := rfl

@[simp] theorem recordComposed_posture (c : StateContents) (s : State) : (s.recordComposed c).posture = s.posture := rfl

@[simp] theorem endReception_posture (s : State) : s.endReception.posture = s.posture := rfl

@[simp] theorem stopSending_posture (read : List Bool) (s : State) : (s.stopSending read).posture = s.posture := rfl

@[simp] theorem releaseHeld_posture (s : State) : s.releaseHeld.posture = s.posture := by
  simp only [releaseHeld]
  split
  · rfl
  · rw [handState_posture]; rfl

@[simp] theorem settleRetry_posture (s : State) : s.settleRetry.posture = s.posture := by
  simp only [settleRetry, releaseHeld_posture]
  split <;> rfl

@[simp] theorem removeState_posture (s : State) : s.removeState.posture = s.posture := by
  simp only [removeState, releaseHeld_posture]; rfl

@[simp] theorem abortPost_posture (k : PostKind) (s : State) : (s.abortPost k).1.posture = s.posture := by
  cases k with
  | alert => rfl
  | reply => rfl
  | state =>
    simp only [abortPost]
    split
    · rfl
    · split
      · rw [settleRetry_posture]; rfl
      · exact removeState_posture s

@[simp] theorem echoMismatch_posture (k : PostKind) (read : List Bool) (s : State) :
    (s.echoMismatch k read).1.posture = s.posture := by
  simp [echoMismatch]

@[simp] theorem abortRunning_posture (s : State) : s.abortRunning.1.posture = s.posture := by
  simp only [abortRunning]
  split
  · rfl
  · exact echoMismatch_posture _ _ _

@[simp] theorem discardBuffer_posture (heard : List Bool) (s : State) : (s.discardBuffer heard).posture = s.posture := by
  simp only [discardBuffer, countIf_posture]; rfl

@[simp] theorem failFinal_posture (s : State) : s.failFinal.posture = s.posture := by
  simp only [failFinal]
  repeat' split
  all_goals rfl

@[simp] theorem servePost_posture (r : Setting) (code : Nat) (s : State) : (s.servePost r code).posture = s.posture := by
  simp only [servePost]
  split
  · rfl
  · split <;> rfl

@[simp] theorem takeSent_posture (p : Setting) (s : State) : (s.takeSent p).posture = s.posture := by
  simp only [takeSent, judgeLink_posture]
  repeat' split
  all_goals simp only [setCharge_posture, setDraw_posture]; rfl

@[simp] theorem hingeRound_posture (s : State) : s.hingeRound.posture = s.posture := by
  simp only [hingeRound]
  split
  · rw [judgeLink_posture]; rfl
  · rfl

@[simp] theorem releaseHinge_posture (s : State) : s.releaseHinge.posture = s.posture := by
  simp only [releaseHinge]
  split
  · rw [judgeLink_posture]; rfl
  · rfl

@[simp] theorem judgeCrowd_posture (s : State) : s.judgeCrowd.posture = s.posture := by
  simp only [judgeCrowd]
  split
  · split
    · rfl
    · rw [logKind_posture]; rfl
  · rfl

@[simp] theorem sweepGauge_posture (moment : Nat) (s : State) : (s.sweepGauge moment).posture = s.posture := by
  simp only [sweepGauge, countIf_posture]; rfl

@[simp] theorem gaugeFull_posture (s : State) : s.gaugeFull.posture = s.posture := by
  simp only [gaugeFull, countIf_posture]; rfl

@[simp] theorem sweepCharger_posture (interval : Nat) (s : State) : (s.sweepCharger interval).1.posture = s.posture := by
  simp only [sweepCharger]
  split
  · rw [gaugeFull_posture]; rfl
  · rfl

@[simp] theorem sweepHinge_posture (s : State) : s.sweepHinge.posture = s.posture := by
  simp only [sweepHinge]
  split
  · simp only [setLink_posture]; rfl
  · rfl

@[simp] theorem queueFinal_posture (s : State) : s.queueFinal.posture = s.posture := by
  simp only [queueFinal]
  split <;> simp

end State
end Sys2Proof.Machine
end

section
/-!
SUPPORT. What each operation of the machine keeps of the modes, the port, the round and the peers.
-/

namespace Sys2Proof.Machine

/-! ### The input port stage in form while the stages are on -/

/-- The port in form with the stages on: sound, its switch closed exactly while attached (R98). -/
def InputPort.Formed (p : InputPort) : Prop :=
  p.Sound ∧ p.switchClosed = p.attached

namespace InputPort

theorem leave_formed {p : InputPort} (d : PortState) (hp : d ≠ .probing) (hh : d ≠ .holding) :
    (p.leave d).Formed := by
  simp [Formed, Sound, leave, attached, hp, hh]

theorem beginProbe_formed {p : InputPort} (h : p.Formed) (hv : p.attachMv ≠ none) : p.beginProbe.Formed := by
  obtain ⟨⟨-, -, -, volts, -, -, count⟩, -⟩ := h
  exact ⟨⟨by simp [beginProbe], by simp [beginProbe], by simpa [beginProbe, attached] using hv, volts,
    by simp [beginProbe], by simp [beginProbe], count⟩, by simp [beginProbe, attached]⟩

/-- A probe that ends leaves the attach voltage and the closed switch (R104). -/
theorem endProbe_formed {p : InputPort} (n : Nat) (h : p.Formed) (hp : p.port = .probing) (lo : 500 ≤ n) (hi : n ≤ 3000) :
    (p.endProbe n).Formed := by
  obtain ⟨⟨-, -, att, volts, -, -, count⟩, closed⟩ := h
  simp only [attached, hp] at att closed
  exact ⟨⟨by simp [endProbe], by simp [endProbe], by simpa [endProbe, attached] using att, volts,
    by simp [endProbe], by simpa [endProbe] using ⟨lo, hi⟩, count⟩, by simpa [endProbe, attached] using closed⟩

/-- The last step held, or 500 mA, is a probed limit in its range (R104). -/
theorem failProbe_formed {p : InputPort} (h : p.Formed) (hp : p.port = .probing) : p.failProbe.Formed := by
  obtain ⟨n, hn⟩ := Option.ne_none_iff_exists'.mp (h.1.1.mp hp)
  obtain ⟨lo, hi, div, last⟩ := h.1.2.1 n hn
  have range : 500 ≤ p.lastHeld.getD 500 ∧ p.lastHeld.getD 500 ≤ 3000 := by
    rw [last]
    split
    · simp
    · simp only [Option.getD_some]; omega
  exact endProbe_formed _ h hp range.1 range.2

theorem abortProbe_formed {p : InputPort} (h : p.Formed) : p.abortProbe.Formed := by
  simp only [abortProbe]
  split
  · rename_i hp; exact failProbe_formed h hp
  · exact h

theorem stepHeld_formed {p : InputPort} (h : p.Formed) (hp : p.port = .probing) : p.stepHeld.Formed := by
  obtain ⟨n, hn⟩ := Option.ne_none_iff_exists'.mp (h.1.1.mp hp)
  obtain ⟨lo, hi, div, -⟩ := h.1.2.1 n hn
  simp only [stepHeld, hn]
  split
  · obtain ⟨⟨-, -, att, volts, limit, range, count⟩, closed⟩ := h
    refine ⟨⟨by simp [hp], ?_, att, volts, limit, range, count⟩, closed⟩
    intro m hm
    obtain rfl : n + 100 = m := by simpa using hm
    exact ⟨by omega, by omega, by omega, by rw [if_neg (by omega)]; simp⟩
  · exact endProbe_formed 3000 h hp (by omega) (by omega)

/-- An attached port has its attach voltage (R97). -/
theorem Formed.attachMv {p : InputPort} (h : p.Formed) (hp : p.port = .holding) : p.attachMv ≠ none :=
  h.1.2.2.1.mp (by simp [attached, hp])

theorem takeContract_formed {p : InputPort} (contract : Option Nat) (latched : Bool) (h : p.Formed) :
    (p.takeContract contract latched).Formed := by
  cases contract with
  | some k => exact abortProbe_formed h
  | none =>
    simp only [takeContract]
    split
    · rename_i hold
      split
      · obtain ⟨⟨step, steps, att, volts, -, -, count⟩, closed⟩ := h
        exact ⟨⟨step, steps, att, volts, fun _ => hold.1, by simp, count⟩, closed⟩
      · exact beginProbe_formed h (h.attachMv hold.1)
    · exact h

theorem released_formed {p : InputPort} (contract : Option Nat) (h : p.Formed) : (p.released contract).Formed := by
  simp only [released]
  split
  · rename_i hold; exact beginProbe_formed h (h.attachMv hold.1)
  · exact h

theorem attach_formed {p : InputPort} (contract : Option Nat) (latched : Bool) (v : Nat) (h : p.Formed)
    (hp : p.port = .detached) (hv : 4300 ≤ v) : (p.attach contract latched v).Formed := by
  obtain ⟨⟨step, -, -, -, -, -, -⟩, -⟩ := h
  have idle : p.step = none := by simpa [hp] using step
  simp only [attach]
  split
  · simp [Formed, Sound, attached, idle, hv]
  · split
    · simp [Formed, Sound, attached, idle, hv]
    · simp [Formed, Sound, attached, beginProbe, hv]

theorem attachCheck_formed {p : InputPort} (contract : Option Nat) (latched : Bool) (c : Channel) (h : p.Formed)
    (hp : p.port = .detached) : (p.attachCheck contract latched c).1.Formed := by
  have counted (n : Nat) (hn : n ≤ 2) : { p with attachCount := n }.Formed := by
    obtain ⟨⟨step, steps, att, volts, limit, range, -⟩, closed⟩ := h
    exact ⟨⟨step, steps, att, volts, limit, range, hn⟩, closed⟩
  simp only [attachCheck]
  split
  · exact h
  · split
    · exact counted 0 (by omega)
    · split
      · exact counted _ (by omega)
      · exact attach_formed _ _ _ h hp (by omega)

theorem sagCheck_formed {p : InputPort} (contract : Option Nat) (c : Channel) (h : p.Formed) :
    (p.sagCheck contract c).Formed := by
  simp only [sagCheck]
  split
  · exact h
  · rename_i n hn
    split
    · rename_i sag
      obtain ⟨⟨step, steps, att, volts, -, range, count⟩, closed⟩ := h
      obtain ⟨lo, hi⟩ := range n hn
      exact ⟨⟨step, steps, att, volts, fun _ => sag.1, by simpa using hi.trans (by omega), count⟩, closed⟩
    · exact h

theorem sweep_formed {p : InputPort} (contract : Option Nat) (latched : Bool) (c : Channel) (h : p.Formed) :
    (p.sweep contract latched c).1.Formed := by
  have left : (p.leave .detached).Formed := leave_formed _ (by simp) (by simp)
  cases hp : p.port <;> simp only [sweep, hp]
  case absent => exact h
  case detached => exact attachCheck_formed contract latched c h hp
  case probing => split; exacts [left, h]
  case holding => split; exacts [left, sagCheck_formed contract c h]
  case blocked =>
    split
    · obtain ⟨⟨step, steps, att, volts, limit, range, count⟩, closed⟩ := h
      simp only [attached, hp] at step att closed limit
      exact ⟨⟨by simpa using step, steps, by simpa [attached] using att, volts, by simpa using limit, range, count⟩,
        by simpa [attached] using closed⟩
    · exact h

end InputPort
end Sys2Proof.Machine
end

section
/-!
SUPPORT. What the operations on time, sweeps, the port and the station state keep of the modes, the port, the round and the peers.
-/

namespace Sys2Proof.Machine.State

/-! ### What sound modes say -/

theorem ModesSound.strapped {s : State} (m : s.ModesSound) (h : s.station.state ≠ .start) : s.strapped = true := by
  obtain ⟨-, -, -, -, strap, -⟩ := m
  exact Bool.not_eq_false _ ▸ fun f => h (strap f)

theorem ModesSound.on {s : State} (m : s.ModesSound) (h : s.station.state ≠ .shelf) : s.station.off = false := by
  obtain ⟨-, -, -, off, -, -⟩ := m
  exact Bool.eq_false_iff.mpr fun f => h (off f)

/-- The round timer runs outside START and SHELF alone. -/
theorem ModesSound.of_timer {s : State} (m : s.ModesSound) {t : Nat} (h : s.round.timer = some t) :
    s.station.state ≠ .start ∧ s.station.state ≠ .shelf := by
  obtain ⟨start, shelf, -⟩ := m
  constructor <;> intro e
  · simpa [h] using (start e).1
  · simpa [h] using (shelf e).1

/-- A sweep is in flight outside START and SHELF alone. -/
theorem ModesSound.of_inFlight {s : State} (m : s.ModesSound) (h : s.round.inFlight = true) :
    s.station.state ≠ .start ∧ s.station.state ≠ .shelf := by
  obtain ⟨start, shelf, -⟩ := m
  constructor <;> intro e
  · simpa [h] using (start e).2.1
  · simpa [h] using (shelf e).2.1

/-- While the controller receives, the straps are decoded and the stages are on (R128). -/
theorem receiving_iff (s : State) : s.receiving = true ↔ s.strapped = true ∧ s.station.off = false := by
  simp [receiving]

/-! ### Time and sweeps -/

theorem advance_keeps (ms : Nat) (s : State) : Keeps s (s.advance ms) where
  modes m := by
    obtain ⟨start, shelf, rest⟩ := m
    exact ⟨fun c => by simpa [advance] using start c, fun c => by simpa [advance] using shelf c, rest⟩
  port _ p := p
  round _ r := by
    obtain ⟨stamp, seq, timer, window, l, ch⟩ := r
    refine ⟨stamp, seq, ?_, ?_, l, ch⟩
    · intro t ht
      obtain ⟨u, hu, rfl⟩ := Option.map_eq_some_iff.mp ht
      exact (Nat.sub_le _ _).trans (timer u hu)
    · intro w hw
      obtain ⟨u, hu, rfl⟩ := Option.map_eq_some_iff.mp hw
      exact (Nat.sub_le _ _).trans (window u hu)
  peers _ p := p

/-- A sweep begins, and the round timer is reloaded or left, outside START and SHELF (R2, R3). -/
theorem round_keeps {s t : State} (h : s.station.state ≠ .start) (h' : s.station.state ≠ .shelf)
    (timer : t.round.timer = some s.start.straps.period ∨ t.round.timer = s.round.timer)
    (e : { t.posture with timer := s.round.timer, inFlight := s.round.inFlight } = s.posture) : Keeps s t := by
  have base : Keeps s (t.withRound { t.round with timer := s.round.timer, inFlight := s.round.inFlight }) := .of_posture e
  have state : t.station.state = s.station.state := congrArg Posture.state e
  have straps : t.start.straps = s.start.straps := congrArg Posture.straps e
  refine ⟨fun m => ?_, base.port, fun m r => ?_, base.peers⟩
  · obtain ⟨-, -, rest⟩ := base.modes m
    exact ⟨fun c => absurd (state ▸ c) h, fun c => absurd (state ▸ c) h', rest⟩
  · obtain ⟨stamp, seq, period, rest⟩ := base.round m r
    refine ⟨stamp, seq, ?_, rest⟩
    rcases timer with c | c
    · simp [c, straps]
    · simpa [c] using period

theorem beginSweep_keeps {s : State} (h : s.station.state ≠ .start) (h' : s.station.state ≠ .shelf) :
    Keeps s s.beginSweep :=
  round_keeps h h' (.inr rfl) rfl

theorem beginSweepIfNone_keeps {s : State} (h : s.station.state ≠ .start) (h' : s.station.state ≠ .shelf) :
    Keeps s s.beginSweepIfNone := by
  simp only [beginSweepIfNone]
  split
  exacts [.refl s, beginSweep_keeps h h']

theorem requestSweep_keeps (s : State) : Keeps s s.requestSweep := by
  rcases s.requestSweep_cases with ⟨-, e⟩ | ⟨-, -, -, e⟩ | ⟨h, h', -, e⟩ <;> rw [e]
  · exact .refl s
  · exact .of_posture rfl
  · exact round_keeps h h' (.inl rfl) rfl

theorem requestSweepIf_keeps (b : Bool) (s : State) : Keeps s (s.requestSweepIf b) := by
  cases b
  exacts [.refl s, requestSweep_keeps s]

/-! ### The input port -/

/-- A port that stays in form while the stages are on; before the end of STRAPS it stays DETACHED (R99). -/
theorem withPort_keeps {s : State} {p : InputPort} (on : s.station.off = false)
    (strap : s.strapped = false → s.port.port = .detached → p.port = .detached) (h : s.port.Formed → p.Formed) :
    Keeps s (s.withPort p) where
  modes m := m
  port _ q := by
    obtain ⟨sound, detached, closed⟩ := q
    obtain ⟨sound', closed'⟩ := h ⟨sound, by simpa [on] using closed⟩
    exact ⟨sound', fun f => strap f (detached f), by simpa [on] using closed'⟩
  round _ r := r
  peers _ p := p

/-- The same after the end of STRAPS. -/
theorem withPort_keeps_strapped {s : State} {p : InputPort} (on : s.station.off = false) (strap : s.strapped = true)
    (h : s.port.Formed → p.Formed) : Keeps s (s.withPort p) :=
  withPort_keeps on (fun f => by simp [strap] at f) h

/-! ### Changes of station state -/

/-- The station leaves for a state that asks nothing to be at rest (R156). -/
theorem become_keeps {s : State} {st : StationState} (strap : s.strapped = true) (on : s.station.off = false)
    (h : st = .solo ∨ st = .paired ∨ st = .latched) : Keeps s (s.become st) where
  modes m := by
    obtain ⟨-, -, -, -, -, low⟩ := m
    refine ⟨?_, ?_, ?_, ?_, ?_, low⟩
    · rcases h with rfl | rfl | rfl <;> simp [become]
    · rcases h with rfl | rfl | rfl <;> simp [become]
    · rcases h with rfl | rfl | rfl <;> simp [become]
    · simp [become, on]
    · intro f; rw [show (s.become st).strapped = s.strapped from rfl, strap] at f; cases f
  port _ p := p
  round _ r := r
  peers _ p := p

theorem enterPaired_keeps {s : State} (strap : s.strapped = true) (on : s.station.off = false) :
    Keeps s s.enterPaired :=
  (become_keeps strap on (.inr (.inl rfl))).trans (requestSweep_keeps _)

theorem leavePaired_keeps {s : State} (strap : s.strapped = true) (on : s.station.off = false) :
    Keeps s s.leavePaired :=
  (become_keeps strap on (.inl rfl)).trans ((Keeps.of_posture (setLink_posture 0 _)).trans (requestSweep_keeps _))

@[simp] theorem judgeCrowd_strapped (s : State) : s.judgeCrowd.strapped = s.strapped := by simp [strapped]

theorem judgePartner_keeps (s : State) : Keeps s s.judgePartner := by
  have crowd : Keeps s s.judgeCrowd := .of_posture (judgeCrowd_posture s)
  refine crowd.trans (.of_modes fun m => ?_)
  have active (h : s.judgeCrowd.station.state = .solo ∨ s.judgeCrowd.station.state = .paired) :
      s.judgeCrowd.strapped = true ∧ s.judgeCrowd.station.off = false := by
    constructor
    · exact m.strapped (by rcases h with h | h <;> simp [h])
    · exact m.on (by rcases h with h | h <;> simp [h])
  simp only [judgePartner]
  split
  · rename_i h
    exact enterPaired_keeps (active (.inl h.1)).1 (active (.inl h.1)).2
  · split
    · rename_i h
      exact leavePaired_keeps (active (.inr h.1)).1 (active (.inr h.1)).2
    · exact .refl _

/-- Entry into LATCHED keeps all (R171): the port ends its probe, the station asks nothing to be at rest. -/
theorem enterLatched_keeps {s : State} (strap : s.strapped = true) (on : s.station.off = false) :
    Keeps s s.enterLatched := by
  simp only [enterLatched]
  refine Keeps.trans ?_ ((requestSweepIf_keeps _ _).trans (requestSweep_keeps _))
  generalize hu : setLink 0 _ = u
  have pos : u.posture = s.posture := by subst hu; simp; rfl
  have strap' : u.strapped = true := strap ▸ congrArg Posture.strapped pos
  have on' : u.station.off = false := on ▸ congrArg Posture.off pos
  refine (Keeps.of_posture pos).trans (Keeps.trans ?_ (become_keeps strap' on' (.inr (.inr rfl))))
  have off : Keeps u (u.withCharger u.charger.enterHoldOff) := .of_posture rfl
  exact off.trans (withPort_keeps_strapped on' strap' (InputPort.abortProbe_formed (p := u.port)))

theorem haltingEffect_keeps (s : State) : Keeps s s.haltingEffect := by
  refine .of_modes fun m => ?_
  simp only [haltingEffect]
  split
  case h_1 h => exact enterLatched_keeps (m.strapped (by simp [h])) (m.on (by simp [h]))
  case h_2 h => exact enterLatched_keeps (m.strapped (by simp [h])) (m.on (by simp [h]))
  case h_3 => exact .refl s
  case h_4 => exact .of_posture rfl
  case h_5 =>
    have pos : ((s.withFault { s.fault with dischargeClosed := false }).setCharge 0).posture = s.posture := by
      rw [setCharge_posture]; rfl
    split
    exacts [.of_posture pos, .of_posture pos]
  case h_6 => exact .of_posture rfl

theorem raise_keeps (k : Kind) (s : State) : Keeps s (s.raise k) := by
  simp only [raise]
  have log : Keeps s (s.logKind k) := .of_posture (logKind_posture k s)
  split
  exacts [log.trans (haltingEffect_keeps _), log]

theorem raiseAll_keeps (ks : List Kind) (s : State) : Keeps s (s.raiseAll ks) := by
  induction ks generalizing s with
  | nil => exact .refl s
  | cons k ks ih => exact (raise_keeps k s).trans (ih _)

/-- MUTE offers nothing (R137). -/
theorem enterMute_keeps {s : State} (strap : s.strapped = true) (on : s.station.off = false) : Keeps s s.enterMute := by
  simp only [enterMute]
  refine Keeps.trans ?_ (requestSweepIf_keeps _ _)
  generalize hu : setLink 0 _ = u
  have pos : u.posture = (s.become .mute).posture := by subst hu; exact setLink_posture _ _
  have mute : Keeps s ((s.become .mute).withLine { s.line with offering := false }) := by
    refine ⟨fun m => ?_, fun _ p => p, fun _ r => r, fun _ p => p⟩
    obtain ⟨-, -, -, -, -, low⟩ := m
    refine ⟨by simp [become], by simp [become], fun _ => rfl, by simp [become, on], fun f => ?_, low⟩
    exact absurd (strap.symm.trans f) (by simp)
  exact mute.trans (.of_posture (congrArg ({ · with offering := false }) pos))

theorem switchOff_keeps {s : State} (vIn : Nat) (h : s.station.state = .shelf) : Keeps s (s.switchOff vIn) where
  modes m := by
    obtain ⟨start, shelf, -, -, strap, low⟩ := m
    exact ⟨fun c => absurd (h ▸ c) (by simp), shelf, fun _ => rfl, fun _ => h, strap, low⟩
  port _ p := by
    obtain ⟨⟨step, steps, rest⟩, detached, -⟩ := p
    exact ⟨⟨step, steps, rest⟩, detached, by simp [switchOff, InputPort.switchOff]⟩
  round _ r := r
  peers _ p := p

theorem settleShelf_keeps (vIn : Nat) (s : State) : Keeps s (s.settleShelf vIn) := by
  rcases s.settleShelf_cases vIn with ⟨h, -, -, e⟩ | e <;> rw [e]
  exacts [switchOff_keeps vIn h, .refl s]

end Sys2Proof.Machine.State
end

section
/-!
SUPPORT. What resets, the start, rounds and the fold window keep of them.
-/

namespace Sys2Proof.Machine.State

/-! ### Resets and the start -/

/-- A state with all four invariants keeps them of any. -/
theorem Keeps.of_sound {s t : State} (modes : t.ModesSound) (port : t.PortSound) (round : t.RoundSound)
    (peers : t.PeersSound) : Keeps s t :=
  ⟨fun _ => modes, fun _ _ => port, fun _ _ => round, fun _ _ => peers⟩

/-- The state after a power-on reset with RESET_N at a level (R148). -/
def resetAt (high : Bool) : State :=
  State.reset.withPins { State.reset.pins with resetNHigh := high }

/-- The values of any reset are sound (R148). -/
theorem resetAt_sound (high : Bool) :
    (resetAt high).ModesSound ∧ (resetAt high).PortSound ∧ (resetAt high).RoundSound ∧ (resetAt high).PeersSound := by
  refine ⟨?_, ?_, ?_, ?_⟩ <;> cases high <;> decide

theorem reset_keeps {s t : State} {high : Bool} (h : t.posture = (resetAt high).posture) : Keeps s t := by
  obtain ⟨modes, port, round, peers⟩ := resetAt_sound high
  exact (Keeps.of_sound modes port round peers).trans (.of_posture h)

theorem wake_keeps (s : State) : Keeps s s.wake := reset_keeps (high := s.pins.resetNHigh) rfl

/-- RESET_N is low only in START, before STRAPS: nothing asks more of the start that begins (R148). -/
theorem resetNRise_keeps {s : State} (h : s.pins.resetNHigh = false) :
    Keeps s ((s.withPins { s.pins with resetNHigh := true }).withStart { s.start with record := .cleared }) := by
  refine ⟨fun m => ?_, fun m p => ?_, fun _ r => r, fun m p => ?_⟩
  all_goals obtain ⟨start, shelf, mute, off, strap, low⟩ := m
  · exact ⟨start, shelf, mute, off, fun _ => strap (low h), fun f => nomatch f⟩
  · obtain ⟨sound, detached, closed⟩ := p
    exact ⟨sound, fun _ => detached (low h), closed⟩
  · obtain ⟨entries, once, empty⟩ := p
    exact ⟨entries, once, fun _ => empty (low h)⟩

theorem atStage_iff (n : Nat) (s : State) :
    s.atStage n = true ↔ s.station.state = .start ∧ s.start.record.stage = n ∧ s.pins.resetNHigh = true := by
  simp [atStage, and_assoc]

/-- With no input fitted the port is ABSENT (R99). -/
theorem settle_sound {p : InputPort} (fitted : Bool) (h : p.Sound) (hp : p.port = .detached) :
    (p.settle fitted).Sound ∧ (p.settle fitted).attached = false ∧ (p.settle fitted).switchClosed = p.switchClosed := by
  cases fitted
  · obtain ⟨step, steps, att, volts, limit, range, count⟩ := h
    simp only [InputPort.attached, hp] at step att limit
    exact ⟨⟨by simpa [InputPort.settle] using step, steps, by simpa [InputPort.settle, InputPort.attached] using att,
      volts, by simpa [InputPort.settle] using limit, range, count⟩, rfl, rfl⟩
  · exact ⟨h, by simp [InputPort.settle, InputPort.attached, hp], rfl⟩

theorem endStraps_keeps (s0 s1 s2 s3 : Fin 16) (foldHigh : Bool) {s : State} (h : s.atStage 1 = true) :
    Keeps s (s.endStraps s0 s1 s2 s3 foldHigh) := by
  obtain ⟨state, stage, high⟩ := (atStage_iff 1 s).mp h
  have unstrapped : s.strapped = false := by simp [strapped, stage]
  simp only [endStraps]
  generalize hu : State.mk .. = u
  have strap : u.strapped = true := by subst hu; rfl
  have decoded : Keeps s u := by
    refine ⟨fun m => ?_, fun _ p => ?_, fun m r => ?_, fun _ p => ?_⟩
    · obtain ⟨start, shelf, mute, off, -, -⟩ := m
      refine ⟨?_, ?_, ?_, ?_, fun f => absurd (strap.symm.trans f) (by simp), fun f => ?_⟩
      case refine_5 => subst hu; exact absurd (high.symm.trans f) (by simp)
      all_goals subst hu; assumption
    · obtain ⟨sound, detached, closed⟩ := p
      obtain ⟨sound', att, closed'⟩ := settle_sound (decodeStraps s0 s1 s2 s3).inputFitted sound (detached unstrapped)
      refine ⟨?_, fun f => absurd (strap.symm.trans f) (by simp), ?_⟩
      · subst hu; exact sound'
      · have stays : s.port.switchClosed = false := by simpa [InputPort.attached, detached unstrapped] using closed
        have att' : u.port.attached = false := by subst hu; exact att
        rw [att', Bool.false_and, ← stays, ← closed']
        subst hu; rfl
    · obtain ⟨stamp, seq, -, rest⟩ := r
      have stopped : s.round.timer = none := (m.1 state).1
      subst hu
      exact ⟨stamp, seq, by simp [stopped], rest⟩
    · obtain ⟨-, -, empty⟩ := p
      have none : u.peers = [] := by subst hu; exact empty unstrapped
      simp [PeersSound, none]
  split
  exacts [decoded.trans (raise_keeps _ _), decoded]

/-- From the end of STRAPS on a later stage is no other posture. -/
theorem strapped_of_stage {s : State} {n : Nat} (h : s.start.record.stage = n) (hn : 2 ≤ n) : s.strapped = true := by
  simp [strapped, h, hn]

theorem endProfile_keeps (packId vCell : Nat) {s : State} (h : s.atStage 2 = true) :
    Keeps s (s.endProfile packId vCell) := by
  obtain ⟨-, stage, -⟩ := (atStage_iff 2 s).mp h
  simp only [endProfile]
  generalize hu : State.mk .. = u
  have chosen : Keeps s u := by
    refine .of_posture ?_
    have strap : u.strapped = s.strapped := by subst hu; simp only [strapped, stage]; rfl
    simp only [posture, strap]
    subst hu
    rfl
  split
  exacts [chosen.trans (raise_keeps _ _), chosen]

theorem endCellCheck_keeps (vCell : Nat) (tCell : Int) {s : State} (h : s.atStage 3 = true) :
    Keeps s (s.endCellCheck vCell tCell) := by
  obtain ⟨-, stage, -⟩ := (atStage_iff 3 s).mp h
  simp only [endCellCheck]
  generalize hu : withStart s _ = u
  have checked : Keeps s u := by
    refine .of_posture ?_
    have strap : u.strapped = s.strapped := by subst hu; simp only [strapped, stage]; rfl
    simp only [posture, strap]
    subst hu
    rfl
  split
  exacts [checked, checked.trans (raise_keeps _ _)]

/-- The line offers only where the controller may (R128, R137). -/
theorem withLine_keeps {s : State} {l : LineController} (h : l.offering = true → s.line.offering = true ∨ s.mayOffer = true) :
    Keeps s (s.withLine l) where
  modes m := by
    obtain ⟨start, shelf, mute, rest⟩ := m
    have rests (st : StationState) (c : s.station.state = st) (hst : st = .start ∨ st = .mute)
        (no : s.line.offering = false) : l.offering = false := by
      refine Bool.eq_false_iff.mpr fun f => ?_
      rcases h f with g | g
      · simp [no] at g
      · rcases hst with rfl | rfl <;> simp [mayOffer, c] at g
    refine ⟨fun c => ?_, shelf, fun c => rests _ c (.inr rfl) (mute c), rest⟩
    obtain ⟨timer, flight, no⟩ := start c
    exact ⟨timer, flight, rests _ c (.inl rfl) no⟩
  port _ p := p
  round _ r := r
  peers _ p := p

/-- READY leads out of START and not into SHELF (R151). -/
theorem enterReady_state (s : State) :
    s.enterReady.station.state = .mute ∨ s.enterReady.station.state = .latched ∨ s.enterReady.station.state = .solo := by
  simp only [enterReady]
  split
  · exact .inl (by rw [(enterMute_spec _).1])
  · split
    · obtain ⟨-, -, -, st, -⟩ := enterLatched_spec (s.withStation { s.station with latchPending := false, mutePending := false })
      exact .inr (.inl (by rw [st]))
    · exact .inr (.inr rfl)

theorem enterReady_keeps {s : State} (strap : s.strapped = true) (on : s.station.off = false) : Keeps s s.enterReady := by
  simp only [enterReady]
  have marks : Keeps s (s.withStation { s.station with latchPending := false, mutePending := false }) := .of_posture rfl
  refine marks.trans ?_
  split
  · exact enterMute_keeps strap on
  · split
    · exact enterLatched_keeps strap on
    · exact become_keeps strap on (.inl rfl)

theorem ready_keeps {s : State} (strap : s.strapped = true) (on : s.station.off = false) : Keeps s s.ready := by
  have left : s.enterReady.station.state ≠ .start ∧ s.enterReady.station.state ≠ .shelf := by
    rcases enterReady_state s with e | e | e <;> simp [e]
  have timed : Keeps s.enterReady
      (s.enterReady.withRound { s.enterReady.round with timer := some s.enterReady.start.straps.period }) :=
    round_keeps left.1 left.2 (.inl rfl) rfl
  have entered := ((enterReady_keeps strap on).trans timed).trans (requestSweep_keeps _)
  simp only [ready]
  generalize requestSweep _ = u at entered ⊢
  have offered : Keeps u (u.withLine { u.line with offering := u.mayOffer && !u.line.stuck }) :=
    withLine_keeps fun h => .inr ((Bool.and_eq_true _ _).mp h).1
  split
  exacts [(entered.trans offered).trans (judgePartner_keeps _), entered.trans offered]

theorem endListen_keeps {s : State} (h : s.atStage 4 = true) : Keeps s s.endListen := by
  obtain ⟨state, stage, -⟩ := (atStage_iff 4 s).mp h
  simp only [endListen]
  generalize hu : withStart _ _ = u
  have listened : Keeps s u := by
    refine (advance_keeps (s.start.listenLeft.getD 0) s).trans (.of_posture ?_)
    have strap : u.strapped = s.strapped := by subst hu; simp only [strapped, stage]; rfl
    simp only [posture, strap]
    subst hu
    rfl
  refine .of_modes fun m => listened.trans (ready_keeps ?_ ?_)
  · subst hu; rfl
  · subst hu; simpa [advance] using m.on (by simp [state])

/-! ### Rounds and the fold window -/

theorem ageEntries_addresses (es : List Entry) : ((ageEntries es).map Entry.address).Sublist (es.map Entry.address) := by
  have : es.map Entry.address = (es.map Entry.aged).map Entry.address := by simp [Entry.aged, Function.comp_def]
  rw [this]
  exact List.filter_sublist.map _

theorem aged_sound {e : Entry} (h : e.Sound) (young : e.aged.age < 10) : e.aged.Sound := by
  obtain ⟨address, -, stale, rest⟩ := h
  have old : e.aged.age = e.age + 1 := rfl
  refine ⟨address, by omega, ?_, rest⟩
  simp only [Entry.aged, Bool.or_eq_true, stale, decide_eq_true_eq]
  omega

theorem withPeers_aged_keeps (s : State) : Keeps s (s.withPeers (ageEntries s.peers)) where
  modes m := m
  port _ p := p
  round _ r := r
  peers _ p := by
    obtain ⟨entries, once, empty⟩ := p
    refine ⟨fun e he => ?_, once.sublist (ageEntries_addresses s.peers), fun f => ?_⟩
    · obtain ⟨hm, young⟩ := List.mem_filter.mp he
      obtain ⟨f, hf, rfl⟩ := List.mem_map.mp hm
      exact ⟨aged_sound (entries f hf).1 (by simpa using young), (entries f hf).2⟩
    · simp [ageEntries, empty f]

/-- The partner judgement leads from SOLO to PAIRED and back alone (R155). -/
theorem judgePartner_state (s : State) :
    s.judgePartner.station.state = s.station.state ∨
      ((s.station.state = .solo ∨ s.station.state = .paired) ∧
        (s.judgePartner.station.state = .solo ∨ s.judgePartner.station.state = .paired)) := by
  have crowd : s.judgeCrowd.station.state = s.station.state := by rw [judgeCrowd_station]
  simp only [judgePartner, crowd]
  split
  · rename_i h
    exact .inr ⟨.inl h.1, .inr (by simp [enterPaired, become])⟩
  · split
    · rename_i h
      exact .inr ⟨.inr h.1, .inl (by simp [leavePaired, become])⟩
    · exact .inl crowd

theorem judgePartner_state_ne {s : State} {st : StationState} (h : s.station.state ≠ st) (hs : st ≠ .solo) (hp : st ≠ .paired) :
    s.judgePartner.station.state ≠ st := by
  rcases judgePartner_state s with e | ⟨-, e | e⟩ <;> rw [e]
  exacts [h, hs.symm, hp.symm]

theorem agePeers_keeps (s : State) : Keeps s s.agePeers := by
  refine (withPeers_aged_keeps s).trans (Keeps.trans ?_ (judgePartner_keeps _))
  split
  exacts [.of_posture (logKind_posture _ _), .refl _]

theorem agePeers_state_ne {s : State} {st : StationState} (h : s.station.state ≠ st) (hs : st ≠ .solo) (hp : st ≠ .paired) :
    s.agePeers.station.state ≠ st := by
  refine judgePartner_state_ne ?_ hs hp
  split <;> simpa using h

theorem hingeRound_keeps (s : State) : Keeps s s.hingeRound := .of_posture (hingeRound_posture s)

theorem ownRound_keeps {s : State} (h : s.station.state ≠ .start) (h' : s.station.state ≠ .shelf) : Keeps s s.ownRound := by
  simp only [ownRound]
  generalize hu : s.withRound _ = u
  have counted : Keeps s u := by
    have timed : Keeps s (s.withRound { s.round with timer := some s.start.straps.period }) := round_keeps h h' (.inl rfl) rfl
    refine timed.trans ?_
    subst hu
    refine ⟨id, fun _ => id, fun _ r => ?_, fun _ => id⟩
    obtain ⟨-, rest⟩ := r
    exact ⟨Nat.mod_lt _ (by omega), rest⟩
  have state (st : StationState) (c : s.station.state ≠ st) (hs : st ≠ .solo) (hp : st ≠ .paired) :
      u.agePeers.hingeRound.station.state ≠ st := by
    rw [hingeRound_station]
    exact agePeers_state_ne (by subst hu; exact c) hs hp
  exact ((counted.trans (agePeers_keeps u)).trans (hingeRound_keeps _)).trans
    (beginSweepIfNone_keeps (state _ h (by simp) (by simp)) (state _ h' (by simp) (by simp)))

theorem ownRoundExpiry_keeps {s : State} {left : Nat} (h : s.round.timer = some left) :
    Keeps s (s.advance left).ownRound :=
  .of_modes fun m => (advance_keeps left s).trans (ownRound_keeps (m.of_timer h).1 (m.of_timer h).2)

/-- The fold state and its window are in no other invariant than the round's (R15). -/
theorem withFold_keeps (f : FoldState) (w : Option Nat) (hw : ∀ n ∈ w, n ≤ 2000) (s : State) :
    Keeps s (s.withRound { s.round with fold := f, foldWindow := w }) where
  modes m := m
  port _ p := p
  round _ r := by
    obtain ⟨stamp, seq, timer, -, rest⟩ := r
    exact ⟨stamp, seq, timer, hw, rest⟩
  peers _ p := p

theorem foldMotion_keeps (s : State) : Keeps s s.foldMotion :=
  (withFold_keeps .moving (some 2000) (by simp) s).trans (requestSweepIf_keeps _ _)

theorem foldWindowExpiry_keeps (left : Nat) (s : State) :
    Keeps s (((s.advance left).withRound
      { (s.advance left).round with fold := (s.advance left).foldOfPin, foldWindow := none }).requestSweep) :=
  ((advance_keeps left s).trans (withFold_keeps _ none (by simp) _)).trans (requestSweep_keeps _)

end Sys2Proof.Machine.State
end

section
/-!
SUPPORT. What sweeps, posts heard, orders, queries and the events of the line and the comparators keep of them; the completion of a
sweep cut at its steps.
-/

namespace Sys2Proof.Machine

/-! ### The sweep -/

/-- A reading judged leaves the held reading within the window (R6). -/
theorem Channel.judge_within {lo hi : Int} (x : Int) {c : Channel} (w : lo ≤ hi) (h : ∀ y ∈ c.held, lo ≤ y ∧ y ≤ hi) :
    ∀ y ∈ (c.judge lo hi x).held, lo ≤ y ∧ y ≤ hi := by
  simp only [Channel.judge]
  split
  · rename_i inside
    simpa using inside
  · cases held : c.held with
    | none =>
      simp only [Option.getD_none, Option.mem_def, Option.some.injEq, forall_eq']
      split <;> omega
    | some y => simpa [held] using h

theorem Channels.judge_sound (fitted : Bool) (r : Readings) {c : Channels} (h : c.Sound) : (c.judge fitted r).Sound := by
  obtain ⟨vCell, vIn, vSys, vHinge, iCell, iLoad, iIn, iHinge, tCell, tHinge⟩ := h
  refine ⟨Channel.judge_within _ (by omega) vCell, ?_, Channel.judge_within _ (by omega) vSys,
    Channel.judge_within _ (by omega) vHinge, Channel.judge_within _ (by omega) iCell,
    Channel.judge_within _ (by omega) iLoad, ?_, Channel.judge_within _ (by omega) iHinge,
    Channel.judge_within _ (by omega) tCell, Channel.judge_within _ (by omega) tHinge⟩
  · cases fitted
    exacts [vIn, Channel.judge_within _ (by omega) vIn]
  · cases fitted
    exacts [iIn, Channel.judge_within _ (by omega) iIn]

namespace State

theorem takeReadings_keeps (r : Readings) (s : State) : Keeps s (s.takeReadings r) where
  modes m := m
  port _ p := p
  round _ q := by
    obtain ⟨stamp, seq, timer, window, l, ch⟩ := q
    exact ⟨stamp, seq, timer, window, l, Channels.judge_sound _ r ch⟩
  peers _ p := p

theorem sweepPort_keeps {s : State} (strap : s.strapped = true) (on : s.station.off = false) : Keeps s s.sweepPort :=
  (withPort_keeps_strapped on strap (InputPort.sweep_formed _ _ _)).trans (requestSweepIf_keeps _ _)

theorem recordL_keeps (f : Figures) (m : Marks) (hf : f.l ≤ 30000) (s : State) : Keeps s (s.recordL f m) := by
  simp only [recordL]
  split
  · exact .refl s
  · refine ⟨id, fun _ => id, fun _ q => ?_, fun _ => id⟩
    obtain ⟨stamp, seq, timer, window, -, ch⟩ := q
    exact ⟨stamp, seq, timer, window, by simpa using hf, ch⟩

/-- Outside SHELF nothing bounds a proposal (R75). -/
theorem replaceProposal_keeps (r : Setting) (code : Nat) {s : State} (h : s.station.state ≠ .shelf) :
    Keeps s (s.replaceProposal r code) := by
  have set : Keeps s (s.withApply { s.apply with proposal := r, code := code }) := by
    refine ⟨fun m => ?_, fun _ => id, fun _ => id, fun _ => id⟩
    obtain ⟨start, -, rest⟩ := m
    exact ⟨start, fun c => absurd c h, rest⟩
  exact set.trans (.of_posture (by simp [replaceProposal]))

/-! ### The composition, cut at its steps (R5 steps 6 to 8) -/

/-- The state once the own last unsuspect L is recorded (R10). -/
def recordedL (s : State) : State :=
  s.recordL s.deriveFigures s.deriveMarks

/-- The composition run (R38). -/
def compositionRun (s : State) : Allotted × OutcomeFlags :=
  s.recordedL.run (s.recordedL.sweepSet s.deriveFigures s.deriveMarks)

/-- The state once the run has replaced the proposal and its flags are added. -/
def runTaken (s : State) : State :=
  (s.recordedL.replaceProposal s.compositionRun.1.setting s.compositionRun.2.code).accrue s.compositionRun.2

/-- The state once an own shortfall is reported (R57). -/
def shortfallReported (s : State) : State :=
  if 0 < s.compositionRun.1.shortfall then s.runTaken.raise .loadShortfall else s.runTaken

/-- The state in which the post is composed: the setpoints are handed over. -/
def readyToCompose (s : State) : State :=
  (s.shortfallReported.countIf s.compositionRun.2.unordered .allotUnordered).handAll

/-- The contents composed (R16). -/
def contentsComposed (phase : Phase) (s : State) : StateContents :=
  s.readyToCompose.compose s.deriveFigures s.deriveMarks phase s.compositionRun.1.setting s.compositionRun.2.code

theorem sweepCompose_eq (phase : Phase) (s : State) :
    s.sweepCompose phase =
      (s.readyToCompose.recordComposed (s.contentsComposed phase)).handState ⟨s.contentsComposed phase, false⟩ := rfl

theorem raise_loadShortfall (s : State) : s.raise .loadShortfall = s.logKind .loadShortfall :=
  raise_degraded _ _ rfl

/-- From the replaced proposal on the composition leaves the posture. -/
theorem sweepCompose_posture (phase : Phase) (s : State) : (s.sweepCompose phase).posture = s.runTaken.posture := by
  rw [sweepCompose_eq, handState_posture, recordComposed_posture, readyToCompose, handAll_posture, countIf_posture,
    shortfallReported]
  split
  · rw [raise_loadShortfall, logKind_posture]
  · rfl

theorem sweepCompose_keeps (phase : Phase) {s : State} (h : s.station.state ≠ .shelf) :
    Keeps s (s.sweepCompose phase) := by
  have recorded : Keeps s s.recordedL := recordL_keeps s.deriveFigures s.deriveMarks (Nat.min_le_left _ _) s
  have replaced : Keeps s.recordedL s.runTaken :=
    (replaceProposal_keeps _ _ (by simpa [recordedL] using h)).trans (.of_posture (accrue_posture _ _))
  exact (recorded.trans replaced).trans (.of_posture (sweepCompose_posture phase s))

theorem endSweep_keeps (s : State) : Keeps s s.endSweep where
  modes m := by
    obtain ⟨start, shelf, rest⟩ := m
    refine ⟨fun c => ?_, fun c => ?_, rest⟩
    · obtain ⟨timer, -, offer⟩ := start c
      exact ⟨timer, rfl, offer⟩
    · obtain ⟨timer, -, zero⟩ := shelf c
      exact ⟨timer, rfl, zero⟩
  port _ p := p
  round _ r := r
  peers _ p := p

/-- A kind raised leads into LATCHED or leaves the station state (R171). -/
theorem raise_state (k : Kind) (s : State) :
    (s.raise k).station.state = .latched ∨ (s.raise k).station.state = s.station.state := by
  simp only [raise]
  split
  · simp only [haltingEffect]
    split
    case h_1 => exact .inl (by rw [(enterLatched_spec _).2.2.2.1])
    case h_2 => exact .inl (by rw [(enterLatched_spec _).2.2.2.1])
    case h_5 => split <;> exact .inr (by simp)
    all_goals exact .inr (by simp)
  · exact .inr (by simp)

theorem raiseAll_state (ks : List Kind) (s : State) :
    (s.raiseAll ks).station.state = .latched ∨ (s.raiseAll ks).station.state = s.station.state := by
  induction ks generalizing s with
  | nil => exact .inr rfl
  | cons k ks ih =>
    rcases ih (s.raise k) with e | e
    · exact .inl e
    · rw [raiseAll_cons, e]; exact raise_state k s

/-! ### The completion of a sweep, cut at its steps (R5) -/

/-- The state after steps 1 and 2 of R5: readings, gauge and charger. -/
def swept (r : Readings) (s : State) : State :=
  (((s.takeReadings r).sweepGauge (s.clock - r.lag)).sweepCharger (s.gauge.interval (s.clock - r.lag))).1

/-- Whether step 2 reports that a safety timer has run out (R166). -/
def sweptTimeout (r : Readings) (s : State) : Bool :=
  (((s.takeReadings r).sweepGauge (s.clock - r.lag)).sweepCharger (s.gauge.interval (s.clock - r.lag))).2

/-- The state after steps 1 to 4 of R5. -/
def sweptStages (r : Readings) (s : State) : State :=
  (s.swept r).sweepPort.sweepHinge

/-- The kinds of step 5 of R5. -/
def sweptKinds (r : Readings) (s : State) : List Kind :=
  (s.sweptStages r).sweepKinds (s.sweptTimeout r) (s.round.channels.newlySuspect (s.takeReadings r).round.channels)

/-- The state after steps 1 to 5 of R5, which the composition reads. -/
def sweptRaised (r : Readings) (s : State) : State :=
  (s.sweptStages r).raiseAll (s.sweptKinds r)

theorem completeSweep_eq (r : Readings) (s : State) :
    s.completeSweep r = ((s.sweptRaised r).sweepCompose (s.sweptRaised r).charger.phase).endSweep := by
  simp only [completeSweep, sweptRaised, sweptKinds, sweptStages, swept, sweptTimeout]

theorem swept_posture (r : Readings) (s : State) : (s.swept r).posture = (s.takeReadings r).posture := by
  simp [swept]

@[simp] theorem swept_station (r : Readings) (s : State) : (s.swept r).station = s.station := by simp [swept]

@[simp] theorem swept_start (r : Readings) (s : State) : (s.swept r).start = s.start := by simp [swept]

theorem sweptStages_station (r : Readings) (s : State) : (s.sweptStages r).station = s.station := by simp [sweptStages]

theorem sweptRaised_state_ne {r : Readings} {s : State} {st : StationState} (h : s.station.state ≠ st) (hl : st ≠ .latched) :
    (s.sweptRaised r).station.state ≠ st := by
  rcases raiseAll_state (s.sweptKinds r) (s.sweptStages r) with e | e
  · rw [sweptRaised, e]; exact hl.symm
  · rw [sweptRaised, e, sweptStages_station]; exact h

theorem sweptStages_keeps (r : Readings) {s : State} (strap : s.strapped = true) (on : s.station.off = false) :
    Keeps s (s.sweptStages r) := by
  have measured : Keeps s (s.swept r) := (takeReadings_keeps r s).trans (.of_posture (swept_posture r s))
  have port : Keeps (s.swept r) (s.swept r).sweepPort :=
    sweepPort_keeps (by simpa [strapped] using strap) (by simpa using on)
  exact (measured.trans port).trans (.of_posture (sweepHinge_posture _))

theorem completeSweep_keeps (r : Readings) {s : State} (h : s.round.inFlight = true) : Keeps s (s.completeSweep r) := by
  refine .of_modes fun m => ?_
  obtain ⟨start, shelf⟩ := m.of_inFlight h
  rw [completeSweep_eq]
  exact (((sweptStages_keeps r (m.strapped start) (m.on shelf)).trans (raiseAll_keeps _ _)).trans
    (sweepCompose_keeps _ (sweptRaised_state_ne shelf (by simp)))).trans (endSweep_keeps _)

/-! ### Posts heard -/

theorem entryOf_sound {source : BitVec 3} (post : StatePost) (st : StationState) (l : Option Nat) (h : source ≠ 7) :
    (entryOf source post st l).Sound := by
  have seq := post.seq.isLt
  simp only [entryOf, figuresTaken, xTaken, Entry.Sound]
  refine ⟨h, by simp, by simp, seq, ?_⟩
  omega

/-- A written entry takes the place of the one of its address, or joins at the end (R153). -/
theorem writeEntry_addresses (e : Entry) (es : List Entry) :
    (writeEntry e es).map Entry.address =
      if (entryAt e.address es).isSome then es.map Entry.address else es.map Entry.address ++ [e.address] := by
  simp only [writeEntry]
  split
  · rw [List.map_map]
    refine List.map_congr_left fun f _ => ?_
    simp only [Function.comp_apply]
    split
    · rename_i c; exact c.symm
    · rfl
  · simp

theorem mem_writeEntry {e f : Entry} {es : List Entry} (h : f ∈ writeEntry e es) : f = e ∨ f ∈ es := by
  simp only [writeEntry] at h
  split at h
  · obtain ⟨g, hg, rfl⟩ := List.mem_map.mp h
    split
    exacts [.inl rfl, .inr hg]
  · simpa [or_comm] using h

theorem withPeers_write_keeps {s : State} {e : Entry} (strap : s.strapped = true) (sound : e.Sound)
    (other : e.address ≠ s.start.straps.address) : Keeps s (s.withPeers (writeEntry e s.peers)) where
  modes m := m
  port _ p := p
  round _ r := r
  peers _ p := by
    obtain ⟨entries, once, -⟩ := p
    refine ⟨fun f hf => ?_, ?_, fun f => absurd (strap.symm.trans f) (by simp)⟩
    · rcases mem_writeEntry hf with rfl | hf
      exacts [⟨sound, other⟩, entries f hf]
    · rw [withPeers_peers, writeEntry_addresses]
      split
      · exact once
      · rename_i new
        refine List.nodup_append.mpr ⟨once, by simp, ?_⟩
        rintro a ha b hb rfl
        obtain ⟨f, hf, hfa⟩ := List.mem_map.mp ha
        simp only [entryAt, List.find?_isSome, not_exists, not_and] at new
        exact new f hf (by simpa [hfa] using hb)

theorem takeEntry_keeps {source : BitVec 3} (post : StatePost) (st : StationState) {s : State} (strap : s.strapped = true)
    (other : source ≠ s.start.straps.address) (h : source ≠ 7) : Keeps s (s.takeEntry source post st) := by
  simp only [takeEntry]
  generalize hu : countIf _ _ s = u
  have counted : u.posture = s.posture := by subst hu; exact countIf_posture _ _ _
  have straps : u.start.straps = s.start.straps := congrArg Posture.straps counted
  have written := withPeers_write_keeps (s := u) (strap ▸ congrArg Posture.strapped counted)
    (entryOf_sound post st ((entryAt source s.peers).bind Entry.lastL) h) (by rw [straps]; exact other)
  refine ((Keeps.of_posture counted).trans written).trans ?_
  exact (judgePartner_keeps _).after rfl

theorem arrivalRunIfDue_keeps (s : State) : Keeps s s.arrivalRunIfDue := by
  simp only [arrivalRunIfDue]
  split
  · exact .refl s
  · rename_i c _
    split
    · rename_i paired
      let run := s.run (s.composedSet c)
      have replaced := replaceProposal_keeps run.1.setting run.2.code (s := s) (by simp [paired])
      refine replaced.trans (.of_posture ?_)
      simp only [arrivalRun, countIf_posture, servePost_posture, accrue_posture, run]
    · exact .refl s

theorem serveArrival_keeps (s : State) : Keeps s s.serveArrival :=
  have cleared : Keeps s (s.withApply { s.apply with unansweredHold := false }) := .of_posture rfl
  (cleared.trans (arrivalRunIfDue_keeps _)).trans (.of_posture (judgeLink_posture _))

theorem takeArrival_keeps {source : BitVec 3} (post : StatePost) {s : State} (strap : s.strapped = true)
    (other : source ≠ s.start.straps.address) (h : source ≠ 7) : Keeps s (s.takeArrival source post) := by
  have counted : Keeps s (s.count .lineCrc) := .of_posture (count_posture _ _)
  simp only [takeArrival]
  split
  · exact counted
  · rename_i st _
    split
    · split
      exacts [(takeEntry_keeps post st strap other h).trans (serveArrival_keeps _), takeEntry_keeps post st strap other h]
    · exact counted

theorem clash_keeps (s : State) : Keeps s s.clash := by
  refine .of_modes fun m => ?_
  have muted (h : s.station.state ≠ .start) (h' : s.station.state ≠ .shelf) : Keeps s s.enterMute :=
    enterMute_keeps (m.strapped h) (m.on h')
  simp only [clash]
  split
  case h_1 => exact .of_posture rfl
  case h_2 h => exact muted (by simp [h]) (by simp [h])
  case h_3 h => exact muted (by simp [h]) (by simp [h])
  case h_4 h => exact muted (by simp [h]) (by simp [h])
  all_goals exact .refl s

theorem takeClash_keeps (s : State) : Keeps s s.takeClash :=
  ((Keeps.of_posture (endReception_posture s)).trans (raise_keeps _ _)).trans (clash_keeps _)

/-! ### Orders -/

theorem enterShelf_keeps {s : State} (strap : s.strapped = true) (on : s.station.off = false) : Keeps s s.enterShelf := by
  simp only [enterShelf]
  generalize hv : setLink 0 _ = v
  have pos : v.posture = { s.posture with state := .shelf, timer := none, inFlight := false, proposal := .zero } := by
    subst hv; simp only [setLink_posture, setCharge_posture, setDraw_posture]; rfl
  have rested : Keeps s v := by
    have shelved : Keeps s (((s.become .shelf).withRound { s.round with inFlight := false, timer := none }).withApply
        { s.apply with proposal := .zero }) := by
      refine ⟨fun m => ?_, fun _ => id, fun _ r => ?_, fun _ => id⟩
      · obtain ⟨-, -, -, -, -, low⟩ := m
        refine ⟨by simp [become], fun _ => ⟨rfl, rfl, rfl⟩, by simp [become], fun _ => rfl, fun f => ?_, low⟩
        exact absurd (strap.symm.trans f) (by simp)
      · obtain ⟨stamp, seq, -, rest⟩ := r
        exact ⟨stamp, seq, by simp, rest⟩
    exact shelved.trans (.of_posture pos)
  have off : Keeps v (v.withCharger v.charger.enterHoldOff) := .of_posture rfl
  have port : Keeps (v.withCharger v.charger.enterHoldOff)
      ((v.withCharger v.charger.enterHoldOff).withPort (v.withCharger v.charger.enterHoldOff).port.abortProbe) :=
    withPort_keeps_strapped (on ▸ congrArg Posture.off pos) (strap ▸ congrArg Posture.strapped pos)
      InputPort.abortProbe_formed
  exact ((rested.trans off).trans port).trans ((Keeps.of_posture rfl).trans (.of_posture (queueFinal_posture _)))

theorem shelfOrder_keeps (vIn : Nat) (s : State) : Keeps s (s.shelfOrder vIn) := by
  refine .of_modes fun m => ?_
  simp only [shelfOrder]
  split
  · rename_i h
    have state : s.station.state ≠ .start ∧ s.station.state ≠ .shelf := by
      rcases (Bool.or_eq_true _ _).mp h with e | e <;> simp [of_decide_eq_true e]
    exact (enterShelf_keeps (m.strapped state.1) (m.on state.2)).trans (settleShelf_keeps _ _)
  · exact .refl s

theorem leaveLatched_keeps {s : State} (h : s.station.state = .latched) : Keeps s s.leaveLatched := by
  refine .of_modes fun m => ?_
  simp only [leaveLatched]
  have closed : Keeps s (s.withFault { s.fault with dischargeClosed := true }) := .of_posture rfl
  have freed := closed.trans (become_keeps (m.strapped (by simp [h])) (m.on (by simp [h])) (.inl rfl))
  generalize hu : become .solo _ = u at freed ⊢
  have solo : u.station.state = .solo := by subst hu; rfl
  have judged := (freed.trans (requestSweep_keeps u)).trans (judgePartner_keeps _)
  have state (st : StationState) (hs : st ≠ .solo) (hp : st ≠ .paired) : u.requestSweep.judgePartner.station.state ≠ st :=
    judgePartner_state_ne (by simpa [solo] using hs.symm) hs hp
  generalize u.requestSweep.judgePartner = v at judged state ⊢
  have strap : v.strapped = true := (judged.modes m).strapped (state _ (by simp) (by simp))
  have on : v.station.off = false := (judged.modes m).on (state _ (by simp) (by simp))
  generalize hw : releaseHinge _ = w
  have pos : w.posture = v.posture := by subst hw; rw [releaseHinge_posture]; rfl
  exact (judged.trans (.of_posture pos)).trans
    (withPort_keeps_strapped (on ▸ congrArg Posture.off pos) (strap ▸ congrArg Posture.strapped pos)
      (InputPort.released_formed _))

theorem releaseOrder_keeps (s : State) : Keeps s s.releaseOrder := by
  simp only [releaseOrder]
  split
  case h_2 => exact .of_posture (releaseHinge_posture s)
  case h_3 => exact .of_posture (releaseHinge_posture s)
  case h_4 h =>
    split
    exacts [leaveLatched_keeps h, .refl s]
  all_goals exact .refl s

theorem storeContract_keeps (contract : Option Nat) {s : State} (strap : s.strapped = true) (on : s.station.off = false) :
    Keeps s (s.storeContract contract) := by
  have stored : Keeps s (s.withPolicy { s.policy with contract := contract }) := .of_posture rfl
  have port := withPort_keeps_strapped (s := s.withPolicy { s.policy with contract := contract }) on strap
    (InputPort.takeContract_formed contract (decide (s.station.state = .latched)))
  simp only [storeContract]
  split
  · exact stored.trans port
  · exact (stored.trans port).trans (.of_posture (setDraw_posture _ _))

theorem routeOrder_keeps (o : Order) (vIn : Nat) (s : State) : Keeps s (s.routeOrder o vIn) := by
  cases o
  exacts [.refl s, shelfOrder_keeps vIn s, releaseOrder_keeps s]

theorem takeLimit_keeps (post : LimitPost) (vIn : Nat) {s : State} (strap : s.strapped = true) (on : s.station.off = false) :
    Keeps s (s.takeLimit post vIn) := by
  simp only [takeLimit]
  refine (storeContract_keeps (contractStored post.contract) strap on).trans ?_
  generalize s.storeContract _ = u
  have policy : Keeps u (u.withPolicy
      { u.policy with ceiling := ceilingStored post.ceiling, balance := balanceStored post.balance }) := .of_posture rfl
  exact (policy.trans (requestSweep_keeps _)).trans (routeOrder_keeps _ _ _)

/-! ### Queries -/

/-- What a QUERY's item does leaves the posture (R180). -/
def Item.Quiet (act : State → State × ReplyContents) : Prop :=
  ∀ s, (act s).1.posture = s.posture

theorem takeQuery_keeps (target : Byte) {act : State → State × ReplyContents} (h : Item.Quiet act) (s : State) :
    Keeps s (s.takeQuery target act) := by
  have heard : Keeps s s.endReception := .of_posture (endReception_posture s)
  cases hr : s.receiving
  · rw [takeQuery, hr]; exact .refl s
  · rcases s.takeQuery_cases target act hr with ⟨-, e⟩ | ⟨-, -, e⟩ | ⟨-, -, e⟩ <;> rw [e]
    · exact heard
    · exact heard.trans (.of_posture (count_posture _ _))
    · exact heard.trans (.of_posture ((handReply_posture _ _).trans (h _)))

theorem classItem_quiet (item argument : Byte) {act : State → Class → State × ReplyContents}
    (h : ∀ s c, (act s c).1.posture = s.posture) : Item.Quiet fun s => classItem item argument s (act s) := by
  intro s
  simp only [classItem]
  split
  exacts [rfl, h s _]

theorem itemReadFirst_quiet (argument : Byte) : Item.Quiet (itemReadFirst argument) :=
  classItem_quiet _ _ fun _ _ => rfl

theorem itemReadNext_quiet (argument : Byte) : Item.Quiet (itemReadNext argument) :=
  classItem_quiet _ _ fun _ _ => rfl

theorem itemClearLog_quiet (argument : Byte) : Item.Quiet (itemClearLog argument) :=
  classItem_quiet _ _ fun _ _ => rfl

theorem item_quiet (item argument : Byte) : Item.Quiet (State.item item argument) := by
  intro s
  simp only [State.item]
  split
  case h_1 => exact itemReadFirst_quiet argument s
  case h_2 => exact itemReadNext_quiet argument s
  case h_5 => exact itemClearLog_quiet argument s
  all_goals rfl

/-! ### The line, SHELF and the comparators -/

theorem lineIdle_keeps (s : State) : Keeps s s.lineIdle := by
  refine withLine_keeps fun h => ?_
  simp only at h
  split at h
  exacts [.inr h, .inl h]

theorem ownStateSent_keeps (q : Queued OwnState) (s : State) : Keeps s (s.ownStateSent q) := by
  have seq (u : State) (p : Option Setting) (h : Option OwnState) :
      Keeps u (u.withRound { u.round with posted := p, seq := (s.round.seq + 1) % 256, held := h }) := by
    refine ⟨id, fun _ => id, fun _ r => ?_, fun _ => id⟩
    obtain ⟨stamp, -, rest⟩ := r
    exact ⟨stamp, Nat.mod_lt _ (by omega), rest⟩
  have left : Keeps s (s.withLine { s.line with state := none, sending := none, idleUs := 0, lowUs := 0 }) :=
    .of_posture rfl
  refine (left.trans (seq _ (some q.post.contents.setting)
    (s.round.held.map (OwnState.withSeq ((s.round.seq + 1) % 256))))).trans (.of_posture ?_)
  simp only [ownStateSent, releaseHeld_posture]
  exact takeSent_posture _ _

theorem echoAbort_keeps (k : PostKind) (read : List Bool) (s : State) : Keeps s (s.echoAbort k read) := by
  have aborted : Keeps s (s.echoMismatch k read).1 := .of_posture (echoMismatch_posture k read s)
  simp only [echoAbort]
  split
  exacts [aborted.trans (raise_keeps _ _), aborted]

theorem stuckStation_keeps (s : State) : Keeps s s.stuckStation := by
  refine .of_modes fun m => ?_
  have held : Keeps s (s.withStation { s.station with stuckHold := true }) := .of_posture rfl
  simp only [stuckStation]
  split
  case h_3 h => exact held.trans (leavePaired_keeps (m.strapped (by simp [h])) (m.on (by simp [h])))
  case h_5 => exact .of_posture (failFinal_posture s)
  case h_6 => exact .refl s
  all_goals exact held

theorem lineStuck_keeps (heard : List Bool) (s : State) : Keeps s (s.lineStuck heard) := by
  simp only [lineStuck]
  have stuck : Keeps s (s.withLine { s.line with stuck := true, offering := false }) := withLine_keeps fun h => nomatch h
  refine stuck.trans ?_
  generalize withLine s _ = u
  have stopped : Keeps u (u.abortRunning.1.discardBuffer heard) :=
    .of_posture ((discardBuffer_posture _ _).trans (abortRunning_posture u))
  have done := (stopped.trans (raise_keeps .lineStuck _)).trans (stuckStation_keeps _)
  split
  exacts [done.trans (raise_keeps _ _), done]

theorem shelfWaitExpiry_keeps (t vIn : Nat) (s : State) :
    Keeps s (((s.advance (1000 - t)).failFinal).settleShelf vIn) :=
  ((advance_keeps _ s).trans (.of_posture (failFinal_posture _))).trans (settleShelf_keeps _ _)

theorem hingeTrip_keeps (s : State) : Keeps s s.hingeTrip :=
  have tripped : Keeps s (s.withHinge (s.hinge.trip s.round.stamp).1) := .of_posture rfl
  (tripped.trans (raiseAll_keeps _ _)).trans (.of_posture (setLink_posture _ _))

theorem tripCell_keeps (vCell : Nat) (iCell : Int) (s : State) : Keeps s (s.tripCell vCell iCell) :=
  (raiseAll_keeps (s.cellTrips vCell iCell) _).after rfl

/-! ### The input port between sweeps -/

/-- A port that is not DETACHED is one after the end of STRAPS: nothing is asked of it before (R99). -/
theorem withPort_keeps_of_state {s : State} {p : InputPort} {st : PortState} (on : s.station.off = false)
    (hp : s.port.port = st) (hs : st ≠ .detached) (h : s.port.Formed → p.Formed) : Keeps s (s.withPort p) :=
  withPort_keeps on (fun _ d => absurd (hp.symm.trans d) hs) h

theorem probing_iff (s : State) : s.probing = true ↔ s.port.port = .probing ∧ s.station.off = false := by
  simp [probing]

theorem probeStepEnd_keeps {s : State} (h : s.probing = true) :
    Keeps s ((s.advance s.port.stepLeft).withPort (s.advance s.port.stepLeft).port.stepHeld) := by
  obtain ⟨port, on⟩ := (probing_iff s).mp h
  exact (advance_keeps _ s).trans
    (withPort_keeps_of_state on port (by simp) fun f => InputPort.stepHeld_formed f port)

theorem failProbe_keeps {s : State} (h : s.probing = true) : Keeps s (s.withPort s.port.failProbe) := by
  obtain ⟨port, on⟩ := (probing_iff s).mp h
  exact withPort_keeps_of_state on port (by simp) fun f => InputPort.failProbe_formed f port

theorem undervoltageTrip_keeps {s : State} (on : s.station.off = false) :
    Keeps s (s.withPort (s.port.leave .detached)).requestSweep :=
  have left : Keeps s (s.withPort (s.port.leave .detached)) :=
    withPort_keeps on (fun _ _ => rfl) fun _ => InputPort.leave_formed _ (by simp) (by simp)
  left.trans (requestSweep_keeps _)

theorem inputOvervolt_keeps {s : State} (h : s.inputArmed = true) : Keeps s s.inputOvervolt := by
  obtain ⟨strap, on⟩ := (receiving_iff s).mp ((Bool.and_eq_true _ _).mp h).1
  have left : Keeps s (s.withPort (s.port.leave .blocked)) :=
    withPort_keeps_strapped on strap fun _ => InputPort.leave_formed _ (by simp) (by simp)
  exact (left.trans (requestSweepIf_keeps _ _)).trans (raise_keeps _ _)

end State
end Sys2Proof.Machine
end

section
/-!
SUPPORT. The gauge in its ranges, and what every step keeps.
-/

namespace Sys2Proof.Machine

/-! ### The gauge -/

namespace Gauge

theorem Sound.addUnits (d : Int) {g : Gauge} (h : g.Sound) : (g.addUnits d).1.Sound := by
  obtain ⟨e, count, overrun⟩ := g.addUnits_bounds d
  obtain ⟨-, lo, hi, r, r', s, s', -, shut⟩ := h
  rw [e]
  exact ⟨count, lo, hi, r, r', s, s', overrun, shut⟩

theorem integrate_sound (i : Int) (t : Nat) {g : Gauge} (h : g.Sound) : (g.integrate i t).1.Sound := by
  simp only [integrate]
  generalize hd : g.residue + i * t = charge
  have units := Sound.addUnits (charge.tdiv 360000) h
  obtain ⟨e, -⟩ := g.addUnits_bounds (charge.tdiv 360000)
  obtain ⟨count, lo, hi, -, -, -, -, overrun, shut⟩ := units
  obtain ⟨-, -, -, -, -, s, s', -, shut'⟩ := h
  have residue : -359999 ≤ charge.tmod 360000 ∧ charge.tmod 360000 ≤ 359999 := by
    have above := Int.lt_tmod_of_pos charge (b := 360000) (by omega)
    have below := Int.tmod_lt_of_pos charge (b := 360000) (by omega)
    omega
  have learning : (g.addUnits (charge.tdiv 360000)).1.learning = g.learning := rfl
  refine ⟨count, lo, hi, residue.1, residue.2, ?_, ?_, overrun, ?_⟩
  all_goals simp only [learning]
  all_goals split
  case refine_1.isTrue => omega
  case refine_1.isFalse => exact s
  case refine_2.isTrue => omega
  case refine_2.isFalse => exact s'
  case refine_3.isTrue c => simp [c]
  case refine_3.isFalse => exact shut'

theorem skip_sound {g : Gauge} (h : g.Sound) : g.skip.Sound := by
  simp only [skip]
  split
  · obtain ⟨count, lo, hi, r, r', -, -, overrun, -⟩ := h
    exact ⟨count, lo, hi, r, r', by simp, by simp, overrun, fun _ => rfl⟩
  · exact h

theorem empty_sound {g : Gauge} (h : g.Sound) : g.empty.Sound := by
  obtain ⟨-, lo, hi, -⟩ := h
  exact ⟨by simp [empty], lo, hi, by simp [empty], by simp [empty], by simp [empty], by simp [empty], by simp [empty],
    fun _ => rfl⟩

theorem sweep_sound (cutoff : Nat) (ok : Bool) (i v : Int) (moment : Nat) {g : Gauge} (h : g.Sound) :
    (g.sweep cutoff ok i v moment).1.Sound := by
  simp only [sweep]
  generalize hc : (if ok then g.integrate i (g.interval moment) else (g.skip, false)) = counted
  have sound : counted.1.Sound := by
    subst hc
    split
    exacts [integrate_sound _ _ h, skip_sound h]
  split
  exacts [empty_sound (g := counted.1) sound, sound]

/-- The capacity of R34 is that of the span, within 0.8 to 1.2 times nominal. -/
theorem full_sound (n : Fin 9) {g : Gauge} (h : g.Sound) : (g.full (profileRow n).capacity).1.Sound := by
  have nominal : 1000 ≤ (profileRow n).capacity ∧ (profileRow n).capacity ≤ 3000 := by decide +revert
  obtain ⟨-, lo, hi, -⟩ := h
  have capacity : 800 ≤ (g.full (profileRow n).capacity).1.capacity ∧ (g.full (profileRow n).capacity).1.capacity ≤ 3600 := by
    simp only [full]
    split
    · rename_i learns
      simp only [Gauge.learns, Bool.and_eq_true, decide_eq_true_eq] at learns
      omega
    · exact ⟨lo, hi⟩
  exact ⟨(Nat.mul_comm _ _).le, capacity.1, capacity.2, by simp [full], by simp [full], by simp [full], by simp [full],
    by simp [full], fun _ => rfl⟩

theorem warm_sound {g : Gauge} (h : g.Sound) : g.warm.Sound := by
  obtain ⟨count, lo, hi, r, r', -⟩ := h
  exact ⟨count, lo, hi, r, r', by simp [warm], by simp [warm], by simp [warm], fun _ => rfl⟩

theorem qOcv_le (v : Nat) : qOcv v ≤ 1000 := by
  simp only [qOcv]
  repeat' split
  all_goals omega

theorem initialise_sound (n : Fin 9) (v : Nat) (g : Gauge) : (g.initialise (profileRow n).capacity v).Sound := by
  have nominal : 1000 ≤ (profileRow n).capacity ∧ (profileRow n).capacity ≤ 3000 := by decide +revert
  have share : qOcv v * (profileRow n).capacity / 100 ≤ 10 * (profileRow n).capacity := by
    have := Nat.mul_le_mul_right (profileRow n).capacity (qOcv_le v)
    omega
  exact ⟨share, by simp only [initialise]; omega, by simp only [initialise]; omega, by simp [initialise],
    by simp [initialise], by simp [initialise], by simp [initialise], by simp [initialise], fun _ => rfl⟩

theorem q_le (g : Gauge) : g.q ≤ 1000 := Nat.min_le_left _ _

end Gauge

namespace State

theorem sweepGauge_sound (moment : Nat) {s : State} (h : s.gauge.Sound) : (s.sweepGauge moment).gauge.Sound := by
  simpa [sweepGauge] using Gauge.sweep_sound _ _ _ _ _ h

theorem sweepCharger_gauge_sound (interval : Nat) {s : State} (h : s.gauge.Sound) :
    (s.sweepCharger interval).1.gauge.Sound := by
  simp only [sweepCharger]
  split
  · rw [gaugeFull, countIf_gauge]
    exact Gauge.full_sound _ h
  · exact h

theorem completeSweep_gauge (r : Readings) (s : State) : (s.completeSweep r).gauge = (s.swept r).gauge := by
  simp [completeSweep_eq, sweptRaised, sweptStages]

theorem completeSweep_gauge_sound (r : Readings) {s : State} (h : s.gauge.Sound) : (s.completeSweep r).gauge.Sound := by
  rw [completeSweep_gauge]
  exact sweepCharger_gauge_sound _ (sweepGauge_sound _ h)

theorem endProfile_gauge_sound (packId vCell : Nat) {s : State} (h : s.gauge.Sound) :
    (s.endProfile packId vCell).gauge.Sound := by
  have chosen : (if s.gauge.initPending then
      s.gauge.initialise (profileRow (chooseProfile s.start.straps.profileField packId).1).capacity vCell
      else s.gauge).Sound := by
    split
    exacts [Gauge.initialise_sound _ _ _, h]
  simp only [endProfile]
  split
  · rw [raise_gauge]; exact chosen
  · exact chosen

/-- A QUERY's item leaves the gauge (R180). -/
theorem takeQuery_gauge (target : Byte) {act : State → State × ReplyContents} (h : ∀ s, (act s).1.gauge = s.gauge) (s : State) :
    (s.takeQuery target act).gauge = s.gauge := by
  cases hr : s.receiving
  · simp [takeQuery, hr]
  · rcases s.takeQuery_cases target act hr with ⟨-, e⟩ | ⟨-, -, e⟩ | ⟨-, -, e⟩ <;> rw [e]
    · rfl
    · simp
    · rw [handReply_gauge, h]; rfl

theorem classItem_gauge (item argument : Byte) {act : Class → State × ReplyContents} {s : State}
    (h : ∀ c, (act c).1.gauge = s.gauge) : (classItem item argument s act).1.gauge = s.gauge := by
  simp only [classItem]
  split
  exacts [rfl, h _]

theorem itemReadFirst_gauge (argument : Byte) (s : State) : (s.itemReadFirst argument).1.gauge = s.gauge :=
  classItem_gauge _ _ fun _ => rfl

theorem itemReadNext_gauge (argument : Byte) (s : State) : (s.itemReadNext argument).1.gauge = s.gauge :=
  classItem_gauge _ _ fun _ => rfl

theorem itemClearLog_gauge (argument : Byte) (s : State) : (s.itemClearLog argument).1.gauge = s.gauge :=
  classItem_gauge _ _ fun _ => rfl

theorem item_gauge (item argument : Byte) (s : State) : (s.item item argument).1.gauge = s.gauge := by
  simp only [State.item]
  split
  case h_1 => exact itemReadFirst_gauge argument s
  case h_2 => exact itemReadNext_gauge argument s
  case h_5 => exact itemClearLog_gauge argument s
  all_goals rfl

/-- Resets keep the gauge's range, with the values of power-on or with those of before (R25, R27). -/
theorem exec_gauge_sound {c : Instr} {s t : State} (h : exec c s = .next t) (g : s.gauge.Sound) : t.gauge.Sound := by
  have kept {u : State} (e : u.gauge = s.gauge) : u.gauge.Sound := e ▸ g
  have warm : s.wake.gauge.Sound := Gauge.warm_sound g
  have reset : State.reset.gauge.Sound := by decide
  cases c
  case powerOnReset => cases h; exact reset
  case warmReset => cases h; exact warm
  case profileComplete => cases h; split; exacts [endProfile_gauge_sound _ _ g, g]
  case sweepComplete => cases h; split; exacts [completeSweep_gauge_sound _ g, g]
  case foldEdge =>
    cases h; split
    · exact g
    · split
      exacts [warm, kept (by simp)]
  case wakeEvent => cases h; split; exacts [warm, g]
  case limit => cases h; split; exacts [g, kept (by split <;> simp)]
  case stateArrival =>
    cases h; split
    · exact g
    · refine kept ?_
      repeat' split
      all_goals simp
  case shelfOrder => cases h; exact kept (by simp)
  case release => cases h; exact kept (by simp)
  case readFirst => cases h; exact kept (takeQuery_gauge _ (itemReadFirst_gauge _) s)
  case readNext => cases h; exact kept (takeQuery_gauge _ (itemReadNext_gauge _) s)
  case readCounters => cases h; exact kept (takeQuery_gauge _ (fun _ => rfl) s)
  case readFlags => cases h; exact kept (takeQuery_gauge _ (fun _ => rfl) s)
  case clearLog => cases h; exact kept (takeQuery_gauge _ (itemClearLog_gauge _) s)
  case clearCounters => cases h; exact kept (takeQuery_gauge _ (fun _ => rfl) s)
  case ackPin => cases h; exact kept (takeQuery_gauge _ (fun _ => rfl) s)
  case readProfile => cases h; exact kept (takeQuery_gauge _ (fun _ => rfl) s)
  case readStart => cases h; exact kept (takeQuery_gauge _ (fun _ => rfl) s)
  case badItem => cases h; exact kept (takeQuery_gauge _ (item_gauge _ _) s)
  case comparatorNoLongerAsserted => cases h; exact g
  case ownStateSent => cases h; split; exacts [kept (by simp), g]
  case lostArbitration => cases h; split; all_goals exact kept (by simp)
  case shelfWaitExpiry => cases h; split; exacts [g, kept (by split <;> simp)]
  all_goals cases h; split; all_goals exact kept (by simp)

/-! ### Every command -/

/-- Every command keeps modes, port, round and peers. -/
theorem exec_keeps {c : Instr} {s t : State} (h : exec c s = .next t) : Keeps s t := by
  cases c
  case powerOnReset => cases h; exact reset_keeps (high := true) rfl
  case warmReset => cases h; exact reset_keeps (high := false) rfl
  case resetNRise =>
    cases h; split
    · exact .refl s
    · rename_i low
      exact resetNRise_keeps (by simpa using low)
  case strapsComplete => cases h; split; exacts [endStraps_keeps _ _ _ _ _ ‹_›, .refl s]
  case profileComplete => cases h; split; exacts [endProfile_keeps _ _ ‹_›, .refl s]
  case cellCheckComplete => cases h; split; exacts [endCellCheck_keeps _ _ ‹_›, .refl s]
  case listenEnd => cases h; split; exacts [endListen_keeps ‹_›, .refl s]
  case ownRoundExpiry => cases h; split; exacts [.refl s, ownRoundExpiry_keeps ‹_›]
  case sweepComplete => cases h; split; exacts [completeSweep_keeps _ ‹_›, .refl s]
  case foldEdge =>
    cases h; split
    · exact .of_posture rfl
    · split
      exacts [(wake_keeps _).after rfl, (foldMotion_keeps _).after rfl]
  case foldWindowExpiry => cases h; split; exacts [.refl s, foldWindowExpiry_keeps _ s]
  case stateArrival source post vIn =>
    cases h; split
    · exact .refl s
    · rename_i on
      split
      · exact takeClash_keeps s
      · rename_i other
        split
        · exact .of_posture (endReception_posture s)
        · rename_i h7
          have strap : s.endReception.strapped = true := ((receiving_iff s).mp (by simpa using on)).1
          exact ((takeArrival_keeps post strap other h7).after (endReception_posture s)).trans (settleShelf_keeps _ _)
  case limit post vIn =>
    cases h; split
    · exact .refl s
    · rename_i on
      obtain ⟨strap, on'⟩ := (receiving_iff s).mp (by simpa using on)
      split
      · exact (takeLimit_keeps post vIn (s := s.endReception) strap on').after (endReception_posture s)
      · exact .of_posture (endReception_posture s)
  case shelfOrder => cases h; exact shelfOrder_keeps _ s
  case release => cases h; exact releaseOrder_keeps s
  case readFirst => cases h; exact takeQuery_keeps _ (itemReadFirst_quiet _) s
  case readNext => cases h; exact takeQuery_keeps _ (itemReadNext_quiet _) s
  case readCounters => cases h; exact takeQuery_keeps _ (fun _ => rfl) s
  case readFlags => cases h; exact takeQuery_keeps _ (fun _ => rfl) s
  case clearLog => cases h; exact takeQuery_keeps _ (itemClearLog_quiet _) s
  case clearCounters => cases h; exact takeQuery_keeps _ (fun _ => rfl) s
  case ackPin => cases h; exact takeQuery_keeps _ (fun _ => rfl) s
  case readProfile => cases h; exact takeQuery_keeps _ (fun _ => rfl) s
  case readStart => cases h; exact takeQuery_keeps _ (fun _ => rfl) s
  case badItem => cases h; exact takeQuery_keeps _ (item_quiet _ _) s
  case addressClash => cases h; split; exacts [takeClash_keeps s, .refl s]
  case invalidPost =>
    cases h; split
    exacts [.of_posture ((countIf_posture _ _ _).trans (endReception_posture s)), .refl s]
  case discardedPost => cases h; split; exacts [.of_posture (endReception_posture s), .refl s]
  case lineIdle => cases h; split; exacts [lineIdle_keeps s, .refl s]
  case ownStateSent =>
    cases h; split
    exacts [(ownStateSent_keeps _ s).trans (settleShelf_keeps _ _), .refl s]
  case alertSent => cases h; split; exacts [.of_posture rfl, .refl s]
  case replySent => cases h; split; exacts [.of_posture rfl, .refl s]
  case lostArbitration =>
    cases h; split
    case h_1 => exact .refl s
    case h_2 => exact .of_posture ((settleRetry_posture _).trans (stopSending_posture _ s))
    all_goals exact .of_posture (stopSending_posture _ s)
  case echoAbort =>
    cases h; split
    exacts [.refl s, (echoAbort_keeps _ _ s).trans (settleShelf_keeps _ _)]
  case lineStuck =>
    cases h; split
    exacts [(lineStuck_keeps _ s).trans (settleShelf_keeps _ _), .refl s]
  case shelfWaitExpiry =>
    cases h; split
    · exact .refl s
    · split
      exacts [shelfWaitExpiry_keeps _ _ s, .refl s]
  case wakeWaitingForHigh => cases h; split; exacts [.of_posture rfl, .refl s]
  case wakeEvent source =>
    cases h; split
    · exact (wake_keeps _).after (by cases source <;> rfl)
    · exact .refl s
  case probeStepEnd => cases h; split; exacts [probeStepEnd_keeps ‹_›, .refl s]
  case probeComparatorTrip =>
    cases h; split
    · rename_i trips
      exact failProbe_keeps ((Bool.and_eq_true _ _).mp trips).1
    · exact .refl s
  case undervoltageTrip =>
    cases h; split
    · rename_i trips
      simp only [Bool.and_eq_true, Bool.not_eq_true'] at trips
      exact undervoltageTrip_keeps trips.1.2
    · exact .refl s
  case inputOvervolt =>
    cases h; split
    · rename_i trips
      exact (inputOvervolt_keeps ((Bool.and_eq_true _ _).mp trips).1).trans (settleShelf_keeps _ _)
    · exact .refl s
  case hingeTrip => cases h; split; exacts [(hingeTrip_keeps s).trans (settleShelf_keeps _ _), .refl s]
  case thresholdLowering => cases h; split; exacts [.refl s, (advance_keeps _ s).trans (.of_posture rfl)]
  case cellOvervolt => cases h; split; exacts [(tripCell_keeps _ _ s).trans (settleShelf_keeps _ _), .refl s]
  case cellOvercurrent => cases h; split; exacts [(tripCell_keeps _ _ s).trans (settleShelf_keeps _ _), .refl s]
  case comparatorNoLongerAsserted => cases h; exact .of_posture rfl

/-- Idling keeps them too. -/
theorem tick_keeps (s : State) : Keeps s s.tick := by
  simp only [tick]
  have edge : Keeps s s.otherEdge := by
    simp only [otherEdge]
    split <;> exact .of_posture rfl
  refine edge.trans ?_
  generalize s.otherEdge = u
  split
  exacts [(advance_keeps 1 u).trans (.of_posture rfl), .of_posture rfl]

theorem step_keeps {s t : State} (h : step s = .next t) : Keeps s t := by
  simp only [step] at h
  split at h
  · cases h; exact tick_keeps s
  · exact (exec_keeps h).after rfl

theorem step_gauge_sound {s t : State} (h : step s = .next t) (g : s.gauge.Sound) : t.gauge.Sound := by
  simp only [step] at h
  split at h
  · cases h
    have e : s.tick.gauge = s.gauge := by simp only [tick]; split <;> simp
    exact e ▸ g
  · exact exec_gauge_sound h g

end State
end Sys2Proof.Machine

open Sys2Proof.Machine

/-- Settles O56: every operation keeps the modes and, with them, the port. -/
theorem stepKeepsModesAndPort : Obligations.StepKeepsModesAndPort := by
  intro s t modes h
  exact ⟨(State.step_keeps h).modes modes, (State.step_keeps h).port modes⟩

/-- Settles O60. -/
theorem stepKeepsGaugeRoundPeers : Obligations.StepKeepsGaugeRoundPeers := by
  intro s t h
  have keeps := State.step_keeps h
  exact ⟨fun g => ⟨State.step_gauge_sound h g, Gauge.q_le _⟩, keeps.round, keeps.peers⟩
end

section
/-!
SUPPORT. Idling: which commands are due, and what a step brings with none waiting.
-/

namespace Sys2Proof.Machine

@[simp] theorem mem_commandIf (b : Bool) (c d : Instr) : c ∈ commandIf b d ↔ c = d ∧ b = true := by
  cases b <;> simp [commandIf]

/-- There is a head exactly while a post waits (R139). -/
theorem LineController.head_isSome (l : LineController) : l.head.isSome = true ↔ l.waiting ≠ 0 := by
  simp only [LineController.head, LineController.waiting]
  cases l.alerts <;> cases l.state <;> cases l.replies <;> simp

namespace State

theorem shelfWaitOver_iff (s : State) :
    s.shelfWaitOver = true ↔ s.station.state = .shelf ∧ s.station.off = false ∧ s.station.shelfWait = some 1000 := by
  simp [shelfWaitOver, and_assoc]

theorem mayBegin_iff (s : State) :
    s.mayBegin = true ↔ s.receiving = true ∧ s.line.offering = true ∧ s.line.idleUs = 240 ∧ s.line.sending = none ∧
      s.line.waiting ≠ 0 := by
  simp [mayBegin, and_assoc, LineController.head_isSome]

/-- A command is due when its timer has run out, and LINE_IDLE when the line stands idle with a post to offer. -/
theorem mem_due (s : State) (c : Instr) : c ∈ s.due ↔
    (c = .ownRoundExpiry ∧ s.round.timer = some 0) ∨ (c = .foldWindowExpiry ∧ s.round.foldWindow = some 0) ∨
    (c = .probeStepEnd ∧ s.port.port = .probing ∧ s.station.off = false ∧ s.port.stepLeft = 0) ∨
    (c = .listenEnd ∧ s.start.listenLeft = some 0) ∨ (c = .thresholdLowering ∧ s.hinge.lowering = some 0) ∨
    (c = .shelfWaitExpiry (Config.vinAtShelfWait s.clock) ∧ s.station.state = .shelf ∧ s.station.off = false ∧
      s.station.shelfWait = some 1000) ∨
    (c = .lineIdle ∧ s.receiving = true ∧ s.line.offering = true ∧ s.line.idleUs = 240 ∧ s.line.sending = none ∧
      s.line.waiting ≠ 0) := by
  simp only [due, List.mem_append, mem_commandIf, shelfWaitOver_iff, mayBegin_iff, Bool.and_eq_true, probing_iff,
    decide_eq_true_eq, or_assoc, and_assoc]

/-- One of the commands due is brought, if any is (R3, R15, R106 name no order). -/
theorem dueFirst_cases (s : State) :
    ((∀ c, c ∉ s.due) ∧ s.dueFirst.toList = []) ∨ ∃ c ∈ s.due, s.dueFirst.toList = [c] := by
  rcases pickOne_cases (Config.tieOrder s.clock s.due.length) s.due with ⟨none, e⟩ | ⟨c, hc, e⟩
  · exact .inl ⟨by simp [none], by rw [dueFirst, e]; rfl⟩
  · exact .inr ⟨c, hc, by rw [dueFirst, e]; rfl⟩

theorem otherEdge_eq (s : State) :
    s.otherEdge = { s with line := { s.line with
      idleUs := if Config.otherBegins s.clock s.line.waiting then 0 else s.line.idleUs } } := by
  simp only [otherEdge]
  split <;> rfl

/-- While a command is due no time passes. -/
theorem tick_due {s : State} {c : Instr} (h : c ∈ s.otherEdge.due) :
    s.tick = s.otherEdge.withPending s.otherEdge.dueFirst.toList := by
  have some : s.otherEdge.due.isEmpty = false := by
    rw [List.isEmpty_eq_false_iff_exists_mem]
    exact ⟨c, h⟩
  simp [tick, some]

/-- With none due a millisecond passes. -/
theorem tick_idle {s : State} (h : ∀ c, c ∉ s.otherEdge.due) :
    s.tick = (s.otherEdge.advance 1).withPending (s.otherEdge.advance 1).dueFirst.toList := by
  simp [tick, List.eq_nil_iff_forall_not_mem.mpr h]

end State
end Sys2Proof.Machine

open Sys2Proof Sys2Proof.Machine

/-- Settles O3: what is due is what `State.due` lists, before a millisecond and after it. -/
theorem idleMillisecond : Obligations.IdleMillisecond := by
  intro s idle isDue u
  have due (x : State) (c : Instr) : isDue x c ↔ c ∈ x.due := (State.mem_due x c).symm
  have edge : s.otherEdge = u := s.otherEdge_eq
  refine ⟨s.tick, by simp [step, idle], ?_, ?_⟩
  · rintro ⟨c, hc⟩
    have hc' : c ∈ s.otherEdge.due := by rw [edge]; exact (due u c).mp hc
    rw [State.tick_due hc', edge]
    rcases u.dueFirst_cases with ⟨none, -⟩ | ⟨d, hd, e⟩
    · exact absurd ((due u c).mp hc) (none c)
    · exact ⟨d, (due u d).mpr hd, by rw [e]; rfl⟩
  · intro none
    have none' : ∀ c, c ∉ s.otherEdge.due := fun c h => none c ((due u c).mpr (edge ▸ h))
    rw [State.tick_idle none', edge]
    refine ⟨rfl, ?_⟩
    rcases (u.advance 1).dueFirst_cases with ⟨none, e⟩ | ⟨d, hd, e⟩
    · exact .inl ⟨e, fun c h => none c ((due _ c).mp h)⟩
    · exact .inr ⟨d, (due _ d).mpr hd, e⟩
end

section
/-!
SUPPORT. What the shared operations do to the log, the counters and the single fields of the round unit, the apply unit and the
hinge link stage.
-/

namespace Sys2Proof.Machine

/-- Two states are alike whose blocks are. -/
theorem State.ext_blocks {s t : State} (pending : s.pending = t.pending) (clock : s.clock = t.clock) (round : s.round = t.round)
    (gauge : s.gauge = t.gauge) (accrued : s.accrued = t.accrued) (apply : s.apply = t.apply) (hinge : s.hinge = t.hinge)
    (port : s.port = t.port) (charger : s.charger = t.charger) (line : s.line = t.line) (peers : s.peers = t.peers)
    (station : s.station = t.station) (start : s.start = t.start) (fault : s.fault = t.fault) (policy : s.policy = t.policy)
    (pins : s.pins = t.pins) : s = t := by
  cases s; cases t
  simp only [State.mk.injEq]
  exact ⟨pending, clock, round, gauge, accrued, apply, hinge, port, charger, line, peers, station, start, fault, policy, pins⟩

/-! ### The log and the counters -/

/-- Counting leaves the log of either class. -/
@[simp] theorem FaultUnit.count_log (k : Corrected) (c : Class) (f : FaultUnit) : (f.count k).log c = f.log c := by
  cases k <;> cases c <;> rfl

/-- The next set takes a kind, or the first record is its (R167). -/
theorem ClassLog.add_holds {k : Kind} {r : FaultRecord} {log v : ClassLog} {first : Bool} (hr : r.kind = k)
    (h : log.add k r = some (v, first)) (j : Kind) :
    ((∃ x ∈ v.first, x.kind = j) ∨ j ∈ v.next) ↔ ((∃ x ∈ log.first, x.kind = j) ∨ j ∈ log.next) ∨ j = k := by
  rcases log.add_cases k r with ⟨none, e⟩ | ⟨old, -, -, e⟩ | ⟨old, some, -, -, e⟩
  · obtain ⟨rfl, -⟩ := Prod.mk.inj (Option.some.inj (e.symm.trans h))
    simp only [none, Option.mem_def, Option.some.injEq, exists_eq_left', hr, reduceCtorEq, false_and, exists_false, false_or]
    rw [or_comm, eq_comm]
  · simp [e] at h
  · obtain ⟨rfl, -⟩ := Prod.mk.inj (Option.some.inj (e.symm.trans h))
    rw [mem_insertKind, or_assoc, or_comm (a := j = k)]

namespace State

@[simp] theorem count_log (k : Corrected) (c : Class) (s : State) : (s.count k).fault.log c = s.fault.log c :=
  FaultUnit.count_log k c s.fault

@[simp] theorem countIf_log (b : Bool) (k : Corrected) (c : Class) (s : State) :
    (s.countIf b k).fault.log c = s.fault.log c := by
  cases b
  exacts [rfl, count_log k c s]

@[simp] theorem handAlert_log (a : AlertContents) (c : Class) (s : State) : (s.handAlert a).fault.log c = s.fault.log c := by
  simp only [handAlert]
  split
  · exact countIf_log _ _ _ _
  · rfl

@[simp] theorem handState_log (p : OwnState) (c : Class) (s : State) : (s.handState p).fault.log c = s.fault.log c := by
  simp only [handState]
  split
  · split
    · rfl
    · exact countIf_log _ _ _ _
  · rfl

/-- What logging a kind does to the log of its class, and of the other (R167). -/
theorem logKind_log (k : Kind) (c : Class) (s : State) :
    (s.logKind k).fault.log c =
      if c = k.severity then (((s.fault.log c).add k (s.snapshot k)).map Prod.fst).getD (s.fault.log c) else s.fault.log c := by
  simp only [logKind]
  split
  · rename_i e
    split
    · rename_i h; subst h; simp [e]
    · rfl
  · rename_i log first e
    have logged (u : FaultUnit) (hu : u = s.fault.withLog k.severity log) :
        u.log c = if c = k.severity then (((s.fault.log c).add k (s.snapshot k)).map Prod.fst).getD (s.fault.log c)
          else s.fault.log c := by
      subst hu
      split
      · rename_i h; subst h; simp [e]
      · rename_i h; exact FaultUnit.withLog_other _ _ _ _ h
    have pin (f : FaultUnit) (b : Bool) : { f with fltAsserted := b }.log c = f.log c := by cases c <;> rfl
    split
    · rw [withFault_fault, pin]; exact logged _ rfl
    · rw [handAlert_log, withFault_fault, pin]; exact logged _ rfl

/-- Logging a kind adds it to what the log holds, and nothing else (R167). -/
theorem logKind_holds (k j : Kind) (s : State) : (s.logKind k).fault.Holds j ↔ s.fault.Holds j ∨ j = k := by
  simp only [FaultUnit.Holds, logKind_log]
  by_cases h : j.severity = k.severity
  · simp only [h, if_true]
    cases e : (s.fault.log k.severity).add k (s.snapshot k) with
    | none =>
      simp only [Option.map_none, Option.getD_none]
      refine ⟨.inl, fun c => c.elim id ?_⟩
      rintro rfl
      rcases (s.fault.log j.severity).add_cases j (s.snapshot j) with ⟨-, e'⟩ | ⟨old, some, held, -⟩ | ⟨old, -, -, -, e'⟩
      · simp [e] at e'
      · simpa [some] using held
      · simp [e] at e'
    | some p => simpa using ClassLog.add_holds (by rfl) e j
  · have : j ≠ k := fun c => h (c ▸ rfl)
    simp [h, this]

/-- The counter that a CORRECTED kind leaves (R164). -/
theorem handAlert_allot (a : AlertContents) (s : State) : (s.handAlert a).fault.allot = s.fault.allot := by
  simp only [handAlert, countIf]
  repeat' split
  all_goals rfl

theorem handState_allot (p : OwnState) (s : State) : (s.handState p).fault.allot = s.fault.allot := by
  simp only [handState, countIf]
  repeat' split
  all_goals rfl

theorem logKind_allot (k : Kind) (s : State) : (s.logKind k).fault.allot = s.fault.allot := by
  have other (c : Class) (v : ClassLog) : (s.fault.withLog c v).allot = s.fault.allot := by cases c <;> rfl
  simp only [logKind]
  split
  · rfl
  · split
    · exact other _ _
    · rw [handAlert_allot]; exact other _ _

theorem handAlert_dischargeClosed (a : AlertContents) (s : State) :
    (s.handAlert a).fault.dischargeClosed = s.fault.dischargeClosed := by
  simp only [handAlert, countIf]
  repeat' split
  all_goals rfl

theorem handState_dischargeClosed (p : OwnState) (s : State) :
    (s.handState p).fault.dischargeClosed = s.fault.dischargeClosed := by
  simp only [handState, countIf]
  repeat' split
  all_goals rfl

theorem logKind_dischargeClosed (k : Kind) (s : State) :
    (s.logKind k).fault.dischargeClosed = s.fault.dischargeClosed := by
  have other (c : Class) (v : ClassLog) : (s.fault.withLog c v).dischargeClosed = s.fault.dischargeClosed := by
    cases c <;> rfl
  simp only [logKind]
  split
  · rfl
  · split
    · exact other _ _
    · rw [handAlert_dischargeClosed]; exact other _ _

/-! ### Sweep requests -/

/-- What a sweep request writes (R3): the timer and the two marks of the sweep, and when the link stage's sweep began. -/
theorem requestSweep_eq (s : State) :
    s.requestSweep = { s with
      round := { s.round with
        timer := s.requestSweep.round.timer, inFlight := s.requestSweep.round.inFlight
        earlyRequest := s.requestSweep.round.earlyRequest }
      hinge := { s.hinge with sinceEntry := s.requestSweep.hinge.sinceEntry } } := by
  rcases s.requestSweep_cases with ⟨-, e⟩ | ⟨-, -, -, e⟩ | ⟨-, -, -, e⟩
  · rw [e]
  · rw [e]
  · rw [e]; rfl

theorem requestSweep_round (s : State) :
    s.requestSweep.round = { s.round with
      timer := s.requestSweep.round.timer, inFlight := s.requestSweep.round.inFlight
      earlyRequest := s.requestSweep.round.earlyRequest } :=
  congrArg State.round s.requestSweep_eq

theorem requestSweep_hinge (s : State) :
    s.requestSweep.hinge = { s.hinge with sinceEntry := s.requestSweep.hinge.sinceEntry } :=
  congrArg State.hinge s.requestSweep_eq

/-- Outside START and SHELF a request leaves a sweep in flight (R3). -/
theorem requestSweep_inFlight {s : State} (h : s.station.state ≠ .start) (h' : s.station.state ≠ .shelf) :
    s.requestSweep.round.inFlight = true := by
  rcases s.requestSweep_cases with ⟨c, -⟩ | ⟨-, -, f, e⟩ | ⟨-, -, -, e⟩
  · exact absurd c (by simp [h, h'])
  · rw [e]; exact f
  · rw [e]

/-- In START and SHELF it is discarded (R3). -/
theorem requestSweep_discarded {s : State} (h : s.station.state = .start ∨ s.station.state = .shelf) : s.requestSweep = s := by
  simp [requestSweep, h]

/-- The timer is reloaded or left (R3). -/
theorem requestSweep_timer (s : State) :
    s.requestSweep.round.timer = s.round.timer ∨ s.requestSweep.round.timer = some s.start.straps.period := by
  rcases s.requestSweep_cases with ⟨-, e⟩ | ⟨-, -, -, e⟩ | ⟨-, -, -, e⟩ <;> rw [e] <;> simp

/-! ### The applied link at the hinge link stage -/

theorem setLink_barring (x : Int) (s : State) : (s.setLink x).hinge.barring = s.hinge.barring := by
  simp only [setLink]
  split
  exacts [rfl, (HingeStage.hand_state _ _ _).1]

theorem setLink_history (x : Int) (s : State) : (s.setLink x).hinge.history = s.hinge.history := by
  simp only [setLink]
  split
  exacts [rfl, (HingeStage.hand_state _ _ _).2.1]

theorem linkStateOf_ne_barred (x : Int) : linkStateOf x ≠ .barred := by
  simp only [linkStateOf]
  repeat' split
  all_goals simp

/-- A stage outside BARRED stays outside it when a link is handed (R82). -/
theorem setLink_not_barred {x : Int} {s : State} (h : s.hinge.link ≠ .barred) : (s.setLink x).hinge.link ≠ .barred := by
  simp only [setLink]
  split
  · exact h
  · obtain ⟨-, -, -, link⟩ := HingeStage.hand_state x ((s.withApply { s.apply with link := x }).linkLimitOf x) s.hinge
    simp only [handLink]
    exact link ▸ by rw [if_neg h]; exact linkStateOf_ne_barred x

theorem setLink_apply (x : Int) (s : State) :
    (s.setLink x).apply = { s.apply with link := x, linkMa := (s.setLink x).apply.linkMa } :=
  congrArg State.apply (setLink_eq x s)

end State
end Sys2Proof.Machine
end

section
/-!
SUPPORT. Rounds, the fold window, the comparators of the input and LIMIT.
-/

namespace Sys2Proof.Machine.State

/-! ### The fold window -/

/-- The three cases of an edge on FOLD (R15, R3). -/
theorem foldMotion_cases (p : Pins) (s : State) :
    ((s.round.fold = .moving ∨ s.station.state = .start ∨ s.station.state = .shelf) ∧
      (s.withPins p).foldMotion =
        { s with pins := p, round := { s.round with fold := .moving, foldWindow := some 2000 } }) ∨
    (¬(s.round.fold = .moving ∨ s.station.state = .start ∨ s.station.state = .shelf) ∧ s.round.inFlight = true ∧
      (s.withPins p).foldMotion =
        { s with pins := p, round := { s.round with fold := .moving, foldWindow := some 2000, earlyRequest := true } }) ∨
    (¬(s.round.fold = .moving ∨ s.station.state = .start ∨ s.station.state = .shelf) ∧ s.round.inFlight = false ∧
      (s.withPins p).foldMotion =
        { s with
          pins := p, hinge := s.hinge.sweepBegins
          round := { s.round with
            fold := .moving, foldWindow := some 2000, inFlight := true, timer := some s.start.straps.period } }) := by
  by_cases moving : s.round.fold = .moving
  · exact .inl ⟨.inl moving, by simp [foldMotion, moving, requestSweepIf]; rfl⟩
  · have requested : (s.withPins p).foldMotion =
        ((s.withPins p).withRound { s.round with fold := .moving, foldWindow := some 2000 }).requestSweep := by
      simp [foldMotion, moving, requestSweepIf]
    rw [requested]
    rcases ((s.withPins p).withRound { s.round with fold := .moving, foldWindow := some 2000 }).requestSweep_cases with
      ⟨h, e⟩ | ⟨h, h', f, e⟩ | ⟨h, h', f, e⟩ <;> rw [e]
    · exact .inl ⟨.inr h, rfl⟩
    · exact .inr (.inl ⟨not_or.mpr ⟨moving, not_or.mpr ⟨h, h'⟩⟩, f, rfl⟩)
    · exact .inr (.inr ⟨not_or.mpr ⟨moving, not_or.mpr ⟨h, h'⟩⟩, f, rfl⟩)

end Sys2Proof.Machine.State

open Sys2Proof Sys2Proof.Machine

/-- Settles O12: the cases of an edge, and the frame of a sweep request. -/
theorem foldWindow : Obligations.FoldWindow := by
  intro rising s on
  refine ⟨fun fitted => ?_, fun unfitted => ?_, fun left window => ?_⟩
  · have next : exec (.foldEdge rising) s = .next (s.withPins { s.pins with foldHigh := rising }).foldMotion := by
      simp [exec, execFoldEdge, fitted, on]
    refine ⟨_, next, ?_⟩
    rcases s.foldMotion_cases { s.pins with foldHigh := rising } with ⟨h, e⟩ | ⟨h, f, e⟩ | ⟨h, f, e⟩ <;> rw [e]
    · exact ⟨rfl, rfl, rfl, by rw [if_pos h]; exact ⟨rfl, rfl⟩, rfl⟩
    · exact ⟨rfl, rfl, rfl, by rw [if_neg h, if_pos f]; exact ⟨rfl, rfl⟩, rfl⟩
    · exact ⟨rfl, rfl, rfl, by rw [if_neg h, if_neg (Bool.eq_false_iff.mp f)]; exact ⟨rfl, rfl⟩, rfl⟩
  · simp [exec, execFoldEdge, unfitted, State.withPins]
  · let v := (s.advance left).withRound
      { (s.advance left).round with fold := (s.advance left).foldOfPin, foldWindow := none }
    have next : exec .foldWindowExpiry s = .next v.requestSweep := by
      simp [exec, execFoldWindowExpiry, window, v]
    refine ⟨_, next, ?_, ?_, fun h h' => State.requestSweep_inFlight (s := v) h h', ?_⟩
    · rw [State.requestSweep_round]; rfl
    · rw [State.requestSweep_round]; rfl
    · rw [State.requestSweep_eq]
      and_intros <;> rfl

namespace Sys2Proof.Machine.State

/-! ### The comparators of the input -/

/-- What an overvoltage of the input writes beyond the log (R102): the port and a sweep requested from an attached one. -/
theorem inputOvervolt_eq (s : State) :
    s.inputOvervolt = ((s.withPort (s.port.leave .blocked)).requestSweepIf s.port.attached).logKind .inputOvervolt :=
  raise_degraded _ _ rfl

theorem logKind_halting {k : Kind} (s : State) (h : k.severity = .degraded) :
    (s.logKind k).fault.halting = s.fault.halting := by
  have other := logKind_log k .halting s
  rwa [if_neg (by simp [h])] at other

theorem requestSweepIf_round (b : Bool) (s : State) :
    (s.requestSweepIf b).round = { s.round with
      timer := (s.requestSweepIf b).round.timer, inFlight := (s.requestSweepIf b).round.inFlight
      earlyRequest := (s.requestSweepIf b).round.earlyRequest } := by
  cases b
  exacts [rfl, requestSweep_round s]

theorem requestSweepIf_hinge (b : Bool) (s : State) :
    (s.requestSweepIf b).hinge = { s.hinge with sinceEntry := (s.requestSweepIf b).hinge.sinceEntry } := by
  cases b
  exacts [rfl, requestSweep_hinge s]

end Sys2Proof.Machine.State

open Sys2Proof Sys2Proof.Machine

/-- Settles O40: both trips leave the port and request a sweep; the second logs its kind. -/
theorem inputComparatorsOpenPort : Obligations.InputComparatorsOpenPort := by
  intro vIn s
  refine ⟨fun port on low => ?_, fun on notShelf high port => ?_⟩
  · let v := s.withPort (s.port.leave .detached)
    have attached : s.port.attached = true := by simpa [InputPort.attached] using port
    have next : exec (.undervoltageTrip vIn) s = .next v.requestSweep := by
      simp [exec, execUndervoltageTrip, attached, on, low, v]
    refine ⟨_, next, ?_, fun h h' => State.requestSweep_inFlight (s := v) h h', ?_⟩
    · rw [State.requestSweep_port]; rfl
    · apply State.ext_blocks
      case round => exact v.requestSweep_round
      case hinge => exact v.requestSweep_hinge
      all_goals simp [v]
  · let v := (s.withPort (s.port.leave .blocked)).requestSweepIf s.port.attached
    have armed : s.inputArmed = true := by
      rcases port with h | h | h <;> simp [State.inputArmed, on, InputPort.attached, h]
    have next : exec (.inputOvervolt vIn) s = .next (v.logKind .inputOvervolt) := by
      simp only [exec, execInputOvervolt, armed, high, decide_true, Bool.and_self, if_true]
      rw [State.settleShelf_outside _ _ (by simpa [State.inputOvervolt_eq] using notShelf), State.inputOvervolt_eq]
    refine ⟨_, next, ?_, (State.logKind_holds _ _ _).mpr (.inr rfl), ?_, fun h => ?_, fun h h' => ?_, ?_⟩
    · rw [State.logKind_port, State.requestSweepIf_port]; rfl
    · rw [State.logKind_halting _ rfl, State.requestSweepIf_fault]; rfl
    · have away : s.port.attached = false := by simp [InputPort.attached, h]
      simp [v, away, State.requestSweepIf]
    · have attached : s.port.attached = true := by
        rcases port with d | d | d <;> simp_all [InputPort.attached]
      simp only [v, attached, State.requestSweepIf, State.logKind_round, if_true]
      exact State.requestSweep_inFlight (s := s.withPort (s.port.leave .blocked)) h' notShelf
    · apply State.ext_blocks
      case round => simp only [State.logKind_round]; exact State.requestSweepIf_round _ _
      case hinge => simp only [State.logKind_hinge]; exact State.requestSweepIf_hinge _ _
      all_goals simp [v]

namespace Sys2Proof.Machine.State

/-! ### LIMIT -/

theorem orderStored_none {b : Byte} (h : b ≠ 1) (h' : b ≠ 2) : orderStored b = .none := by
  simp only [orderStored]
  split
  · rename_i e; exact absurd (BitVec.eq_of_toNat_eq e) h
  · rename_i e; exact absurd (BitVec.eq_of_toNat_eq e) h'
  · rfl

theorem addressed_of {own : BitVec 3} {target : Byte} (h : target.toNat = own.toNat ∨ target = 7) :
    addressed own target = true := by
  rcases h with h | rfl <;> simp_all [addressed]

/-- A stored contract leaves all but the policy, the applied draw with its limit, and the port (R107, R70). -/
theorem storeContract_port (contract : Option Nat) (s : State) :
    (s.storeContract contract).port = { s.port.takeContract contract (decide (s.station.state = .latched)) with
      drawLimit := (s.storeContract contract).port.drawLimit } := by
  cases contract with
  | none => rfl
  | some k => simp only [storeContract]; rw [setDraw_eq]; rfl

theorem storeContract_apply (contract : Option Nat) (s : State) :
    (s.storeContract contract).apply = { s.apply with
      draw := (s.storeContract contract).apply.draw, drawMa := (s.storeContract contract).apply.drawMa } := by
  cases contract with
  | none => rfl
  | some k => simp only [storeContract]; rw [setDraw_eq]; rfl

theorem storeContract_policy (contract : Option Nat) (s : State) :
    (s.storeContract contract).policy = { s.policy with contract := contract } := by
  cases contract <;> simp [storeContract]

theorem storeContract_draw (contract : Option Nat) (s : State) :
    (s.storeContract contract).apply.draw = match contract with
      | none => s.apply.draw
      | some k => min s.apply.draw k := by
  cases contract <;> simp [storeContract]

/-- What a LIMIT with order NONE does, in the order of R176. -/
def limitStored (contract : Option Nat) (ceiling : Nat) (balance : Bool) (s : State) : State :=
  ((s.endReception.storeContract contract).withPolicy
    { (s.endReception.storeContract contract).policy with ceiling := ceiling, balance := balance }).requestSweep

theorem exec_limit_none {p : LimitPost} {s : State} (vIn : Nat) (on : s.receiving = true)
    (target : p.target.toNat = s.start.straps.address.toNat ∨ p.target = 7) (h : p.order ≠ 1) (h' : p.order ≠ 2) :
    exec (.limit p vIn) s =
      .next (s.limitStored (contractStored p.contract) (ceilingStored p.ceiling) (balanceStored p.balance)) := by
  simp only [exec, execLimit, on, addressed_of target, takeLimit, orderStored_none h h', routeOrder, limitStored,
    Bool.not_true, Bool.false_eq_true, if_false, if_true]

section
variable (contract : Option Nat) (ceiling : Nat) (balance : Bool) (s : State)

theorem limitStored_policy : (s.limitStored contract ceiling balance).policy = ⟨contract, ceiling, balance⟩ := by
  simp [limitStored, storeContract_policy]

theorem limitStored_apply : (s.limitStored contract ceiling balance).apply = { s.apply with
    draw := (s.limitStored contract ceiling balance).apply.draw
    drawMa := (s.limitStored contract ceiling balance).apply.drawMa } := by
  simp only [limitStored, requestSweep_apply]
  exact storeContract_apply _ _

theorem limitStored_draw : (s.limitStored contract ceiling balance).apply.draw = match contract with
    | none => s.apply.draw
    | some k => min s.apply.draw k := by
  simp only [limitStored, requestSweep_apply]
  exact storeContract_draw _ _

theorem limitStored_port : (s.limitStored contract ceiling balance).port =
    { s.port.takeContract contract (decide (s.station.state = .latched)) with
      drawLimit := (s.limitStored contract ceiling balance).port.drawLimit } := by
  simp only [limitStored, requestSweep_port]
  exact storeContract_port _ _

theorem limitStored_round : (s.limitStored contract ceiling balance).round = { s.round with
    timer := (s.limitStored contract ceiling balance).round.timer
    inFlight := (s.limitStored contract ceiling balance).round.inFlight
    earlyRequest := (s.limitStored contract ceiling balance).round.earlyRequest } := by
  have before : (s.endReception.storeContract contract).round = s.round := by simp
  simp only [limitStored]
  rw [requestSweep_round, withPolicy_round, before]

theorem limitStored_hinge : (s.limitStored contract ceiling balance).hinge =
    { s.hinge with sinceEntry := (s.limitStored contract ceiling balance).hinge.sinceEntry } := by
  have before : (s.endReception.storeContract contract).hinge = s.hinge := by simp
  simp only [limitStored]
  rw [requestSweep_hinge, withPolicy_hinge, before]

theorem limitStored_inFlight (h : s.station.state ≠ .start) (h' : s.station.state ≠ .shelf) :
    (s.limitStored contract ceiling balance).round.inFlight = true :=
  requestSweep_inFlight (by simpa using h) (by simpa using h')

theorem limitStored_rest (h : s.station.state = .start ∨ s.station.state = .shelf) :
    (s.limitStored contract ceiling balance).round = s.round ∧ (s.limitStored contract ceiling balance).hinge = s.hinge := by
  rw [limitStored, requestSweep_discarded (by simpa using h)]
  exact ⟨by simp, by simp⟩

end

end Sys2Proof.Machine.State

namespace Sys2Proof.Machine.InputPort

/-- A contract stored, or none, that finds no probe to end and none to begin leaves the port (R107). -/
theorem takeContract_idle {contract : Option Nat} (latched : Bool) {p : InputPort} (h : p.port ≠ .probing ∨ contract = none)
    (h' : p.port = .holding → contract ≠ none ∨ p.probed ≠ none) : p.takeContract contract latched = p := by
  cases contract with
  | some k => simp [takeContract, abortProbe, h.resolve_right (by simp)]
  | none =>
    have : ¬(p.port = .holding ∧ p.probed = none) := fun c => (h' c.1).elim (absurd rfl) (absurd c.2)
    simp [takeContract, this]

end Sys2Proof.Machine.InputPort

open Sys2Proof Sys2Proof.Machine

/-- Settles O22: the contract reaches the port, the draw and the policy; the rest is a sweep request. -/
theorem limitStores : Obligations.LimitStores := by
  intro p vIn s on target notShelf notRelease contract
  refine ⟨_, State.exec_limit_none vIn on target notShelf notRelease, ?_⟩
  have stored : contractStored p.contract = contract := rfl
  clear_value contract
  rw [stored]
  have port := s.limitStored_port contract (ceilingStored p.ceiling) (balanceStored p.balance)
  refine ⟨s.limitStored_policy _ _ _, s.limitStored_draw _ _ _, s.limitStored_apply _ _ _, fun some probing => ?_,
    fun none holding unprobed => ?_, fun h h' => ?_, fun h h' => s.limitStored_inFlight _ _ _ h h',
    fun h => s.limitStored_rest _ _ _ h, ?_⟩
  · obtain ⟨k, rfl⟩ := Option.ne_none_iff_exists'.mp some
    rw [port]
    simp [InputPort.takeContract, InputPort.abortProbe, probing, InputPort.failProbe, InputPort.endProbe]
  · subst none
    split
    · rename_i latched
      rw [port]
      simp [InputPort.takeContract, holding, unprobed, latched]
    · rename_i awake
      rw [port]
      simp [InputPort.takeContract, holding, unprobed, awake, InputPort.beginProbe]
  · rw [InputPort.takeContract_idle _ h h'] at port
    exact port
  · apply State.ext_blocks
    case round => exact s.limitStored_round _ _ _
    case hinge => exact s.limitStored_hinge _ _ _
    case policy => rfl
    case apply => rfl
    case port => rfl
    all_goals simp [State.limitStored, State.endReception]
end

section
/-!
SUPPORT. The own round: what aging, the partner judgement and the hinge link stage's round do to the single fields.
-/

namespace Sys2Proof.Machine

/-! ### The own round at the hinge link stage and the peer table -/

/-- A barring counts down by one, and its end opens the stage (R90). -/
theorem HingeStage.ownRound_barring (h : HingeStage) :
    (∀ n, h.barring = .rounds (n + 1) → h.ownRound.1.barring = .rounds n) ∧
      (h.barring = .rounds 1 → h.ownRound.1.link = .opened) ∧
      (h.barring = .rounds 0 ∨ h.barring = .untilRelease → h.ownRound = (h, false)) ∧ h.ownRound.1.history = h.history := by
  refine ⟨fun n e => ?_, fun e => ?_, fun e => ?_, ?_⟩
  · simp only [HingeStage.ownRound, e]
    split
    · rename_i zero; rw [zero]
    · rfl
  · simp [HingeStage.ownRound, e]
  · rcases e with e | e <;> simp [HingeStage.ownRound, e]
  · simp only [HingeStage.ownRound]
    repeat' split
    all_goals rfl

/-- Aging, in the form in which an entry of age 9 is dropped before it is older (R154). -/
theorem ageEntries_eq (es : List Entry) :
    ageEntries es = (es.filter fun e => decide (e.age < 9)).map
      (fun e => { e with age := e.age + 1, stale := e.stale || decide (2 ≤ e.age) }) := by
  have aged (e : Entry) : e.aged = { e with age := e.age + 1, stale := e.stale || decide (2 ≤ e.age) } := by
    simp [Entry.aged]
  have young : ((fun e : Entry => decide (e.age < 10)) ∘ Entry.aged) = fun e => decide (e.age < 9) := by
    funext e; exact decide_eq_decide.mpr (show e.age + 1 < 10 ↔ e.age < 9 by omega)
  rw [ageEntries, List.filter_map, young]
  exact List.map_congr_left fun e _ => aged e

/-- An entry that qualifies after aging qualified before (R154, R155). -/
theorem qualifies_of_aged {e : Entry} (h : e.aged.qualifies = true) : e.qualifies = true := by
  simp only [Entry.qualifies, Entry.aged, Bool.not_or, Bool.and_eq_true] at h ⊢
  exact ⟨h.1.1, h.2⟩

/-- Once the partner's entry goes STALE there is no partner (R154, R155). -/
theorem partnerOf_ageEntries {es : List Entry} {e : Entry} (h : partnerOf es = some e) (stale : e.aged.stale = true) :
    partnerOf (ageEntries es) = none := by
  have one : es.filter Entry.qualifies = [e] := by
    simp only [partnerOf] at h
    split at h
    · rename_i e' one
      rw [one, Option.some.inj h]
    · cases h
  have no : (ageEntries es).filter Entry.qualifies = [] := by
    refine List.filter_eq_nil_iff.mpr fun f hf q => ?_
    obtain ⟨hf, -⟩ := List.mem_filter.mp hf
    obtain ⟨g, hg, rfl⟩ := List.mem_map.mp hf
    have : g ∈ es.filter Entry.qualifies := List.mem_filter.mpr ⟨hg, qualifies_of_aged q⟩
    obtain rfl : g = e := by simpa [one] using this
    simp [Entry.qualifies, stale] at q
  simp [partnerOf, no]

namespace State

/-! ### The partner judgement -/

/-- The judgement of the crowd leaves round, apply unit and hinge link stage; so does the partner judgement but for the link
and a sweep requested (R155, R73). -/
theorem judgePartner_cases (s : State) :
    s.judgePartner = s.judgeCrowd ∨ s.judgePartner = (s.judgeCrowd.become .paired).requestSweep ∨
      s.judgePartner = ((s.judgeCrowd.become .solo).setLink 0).requestSweep := by
  simp only [judgePartner]
  split
  · exact .inr (.inl rfl)
  · split
    exacts [.inr (.inr rfl), .inl rfl]

theorem judgePartner_round (s : State) :
    s.judgePartner.round = { s.round with
      timer := s.judgePartner.round.timer, inFlight := s.judgePartner.round.inFlight
      earlyRequest := s.judgePartner.round.earlyRequest } := by
  rcases s.judgePartner_cases with e | e | e <;> rw [e]
  · simp
  · rw [requestSweep_round]; simp
  · rw [requestSweep_round]; simp

theorem judgePartner_timer (s : State) :
    s.judgePartner.round.timer = s.round.timer ∨ s.judgePartner.round.timer = some s.start.straps.period := by
  rcases s.judgePartner_cases with e | e | e <;> rw [e]
  · simp
  · simpa using (s.judgeCrowd.become .paired).requestSweep_timer
  · simpa using ((s.judgeCrowd.become .solo).setLink 0).requestSweep_timer

theorem judgePartner_apply (s : State) :
    s.judgePartner.apply =
      { s.apply with link := s.judgePartner.apply.link, linkMa := s.judgePartner.apply.linkMa } := by
  rcases s.judgePartner_cases with e | e | e <;> rw [e]
  · simp
  · simp
  · rw [requestSweep_apply, setLink_apply]; simp

theorem judgePartner_barring (s : State) :
    s.judgePartner.hinge.barring = s.hinge.barring ∧ s.judgePartner.hinge.history = s.hinge.history := by
  rcases s.judgePartner_cases with e | e | e <;> rw [e]
  · simp
  · rw [requestSweep_hinge]; simp
  · rw [requestSweep_hinge]; simp [setLink_barring, setLink_history]

/-- The partner judgement leaves what the log holds, but for CROWD (R155). -/
theorem judgePartner_holds {k : Kind} {s : State} (h : s.fault.Holds k) : s.judgePartner.fault.Holds k := by
  have crowd : s.judgeCrowd.fault.Holds k := by
    simp only [judgeCrowd]
    split
    · split
      · exact h
      · exact (logKind_holds _ _ _).mpr (.inl h)
    · exact h
  rcases s.judgePartner_cases with e | e | e <;> rw [e]
  · exact crowd
  · rw [requestSweep_fault]; exact crowd
  · rw [requestSweep_fault, setLink_fault]; exact crowd

/-- A station PAIRED without a partner leaves PAIRED, with the link at 0 (R73, R155). -/
theorem judgePartner_leaves {s : State} (h : s.station.state = .paired) (none : s.partner = none) :
    s.judgePartner.station.state = .solo ∧ s.judgePartner.apply.link = 0 := by
  have state : s.judgeCrowd.station.state = .paired := by rw [judgeCrowd_station]; exact h
  have alone : s.judgeCrowd.partner = Option.none := by simpa [partner] using none
  simp [judgePartner, state, alone, leavePaired, become]

/-! ### The own round -/

/-- The state at an own round before the partner is judged: aged, and PARTNER_LOST logged (R154). -/
def peersAged (s : State) : State :=
  if decide (s.station.state = .paired) && partnerGoesStale s.peers then
    (s.withPeers (ageEntries s.peers)).logKind .partnerLost
  else s.withPeers (ageEntries s.peers)

theorem agePeers_eq (s : State) : s.agePeers = s.peersAged.judgePartner := rfl

/-- Up to there only the table and, by PARTNER_LOST, line and fault unit have changed. -/
theorem peersAged_eq (s : State) :
    s.peersAged = { s with peers := ageEntries s.peers, line := s.peersAged.line, fault := s.peersAged.fault } := by
  simp only [peersAged]
  split
  · rw [logKind_eq]; rfl
  · rfl

@[simp] theorem peersAged_round (s : State) : s.peersAged.round = s.round := by rw [peersAged_eq]

@[simp] theorem peersAged_hinge (s : State) : s.peersAged.hinge = s.hinge := by rw [peersAged_eq]

@[simp] theorem peersAged_apply (s : State) : s.peersAged.apply = s.apply := by rw [peersAged_eq]

@[simp] theorem peersAged_start (s : State) : s.peersAged.start = s.start := by rw [peersAged_eq]

@[simp] theorem peersAged_peers (s : State) : s.peersAged.peers = ageEntries s.peers := by rw [peersAged_eq]

theorem agePeers_round (s : State) :
    s.agePeers.round = { s.round with
      timer := s.agePeers.round.timer, inFlight := s.agePeers.round.inFlight
      earlyRequest := s.agePeers.round.earlyRequest } := by
  simpa [agePeers_eq] using s.peersAged.judgePartner_round

theorem agePeers_timer (s : State) :
    s.agePeers.round.timer = s.round.timer ∨ s.agePeers.round.timer = some s.start.straps.period := by
  simpa [agePeers_eq] using s.peersAged.judgePartner_timer

theorem agePeers_apply (s : State) :
    s.agePeers.apply = { s.apply with link := s.agePeers.apply.link, linkMa := s.agePeers.apply.linkMa } := by
  simpa [agePeers_eq] using s.peersAged.judgePartner_apply

theorem agePeers_barring (s : State) :
    s.agePeers.hinge.barring = s.hinge.barring ∧ s.agePeers.hinge.history = s.hinge.history := by
  simpa [agePeers_eq] using s.peersAged.judgePartner_barring

theorem agePeers_peers (s : State) : s.agePeers.peers = ageEntries s.peers := by
  rw [agePeers_eq, judgePartner_peers, peersAged_peers]

/-- At the end of the partner's freshness PARTNER_LOST is logged and PAIRED is left (R154). -/
theorem agePeers_lost {s : State} {e : Entry} (h : s.station.state = .paired) (he : s.partner = some e)
    (stale : e.aged.stale = true) :
    s.agePeers.fault.Holds .partnerLost ∧ s.agePeers.station.state = .solo ∧ s.agePeers.apply.link = 0 := by
  have lost : partnerGoesStale s.peers = true := by
    rw [partner] at he
    simp only [partnerGoesStale, he, stale]
  have aged : s.peersAged = (s.withPeers (ageEntries s.peers)).logKind .partnerLost := by simp [peersAged, h, lost]
  have state : s.peersAged.station.state = .paired := by simp [aged, h]
  have alone : s.peersAged.partner = none := by
    simpa [aged, partner] using partnerOf_ageEntries he stale
  rw [agePeers_eq]
  exact ⟨judgePartner_holds (aged ▸ (logKind_holds _ _ _).mpr (.inr rfl)), judgePartner_leaves state alone⟩

theorem hingeRound_barring (s : State) :
    s.hingeRound.hinge.barring = s.hinge.ownRound.1.barring ∧ s.hingeRound.hinge.history = s.hinge.history := by
  obtain ⟨-, -, -, history⟩ := s.hinge.ownRound_barring
  simp only [hingeRound]
  split
  · exact ⟨setLink_barring _ _, (setLink_history _ _).trans history⟩
  · exact ⟨rfl, history⟩

/-- The stage that opens at the end of a barring is not barred again by the link judgement (R90). -/
theorem hingeRound_not_barred {s : State} (h : s.hinge.barring = .rounds 1) : s.hingeRound.hinge.link ≠ .barred := by
  obtain ⟨-, opened, -, -⟩ := s.hinge.ownRound_barring
  have open_ : (s.withHinge s.hinge.ownRound.1).hinge.link ≠ .barred := by simp [opened h]
  simp only [hingeRound]
  split
  exacts [setLink_not_barred open_, open_]

theorem hingeRound_apply (s : State) :
    s.hingeRound.apply = { s.apply with link := s.hingeRound.apply.link, linkMa := s.hingeRound.apply.linkMa } := by
  simp only [hingeRound]
  split
  · rw [judgeLink, setLink_apply]; rfl
  · rfl

/-- A full link judgement outside PAIRED finds 0 (R67). -/
theorem judgedLink_unpaired {s : State} (h : s.station.state ≠ .paired) : s.judgedLink = 0 := by
  simp [judgedLink, h]

theorem hingeRound_link {s : State} (h : s.station.state ≠ .paired) (zero : s.apply.link = 0) : s.hingeRound.apply.link = 0 := by
  simp only [hingeRound]
  split
  · rw [judgeLink_link]; exact judgedLink_unpaired h
  · exact zero

theorem beginSweepIfNone_eq (s : State) :
    s.beginSweepIfNone = { s with
      round := { s.round with inFlight := true }
      hinge := { s.hinge with sinceEntry := s.beginSweepIfNone.hinge.sinceEntry } } := by
  simp only [beginSweepIfNone]
  split
  · rename_i f
    rw [← f]
  · rfl

/-- The state at an own round with the stamp counted and the timer reloaded (R2). -/
def roundCounted (s : State) : State :=
  s.withRound { s.round with timer := some s.start.straps.period, stamp := (s.round.stamp + 1) % 16777216 }

theorem ownRound_eq (s : State) : s.ownRound = s.roundCounted.agePeers.hingeRound.beginSweepIfNone := rfl

theorem ownRound_round (s : State) :
    s.ownRound.round = { s.round with
      timer := some s.start.straps.period, stamp := (s.round.stamp + 1) % 16777216, inFlight := true
      earlyRequest := s.ownRound.round.earlyRequest } := by
  have timer : s.roundCounted.agePeers.round.timer = some s.start.straps.period := by
    rcases s.roundCounted.agePeers_timer with e | e <;> rw [e] <;> rfl
  rw [ownRound_eq, beginSweepIfNone_eq, hingeRound_round, agePeers_round, timer]
  rfl

theorem ownRound_apply (s : State) :
    s.ownRound.apply = { s.apply with link := s.ownRound.apply.link, linkMa := s.ownRound.apply.linkMa } := by
  rw [ownRound_eq, beginSweepIfNone_eq, hingeRound_apply, agePeers_apply]
  rfl

theorem ownRound_hinge (s : State) :
    s.ownRound.hinge.barring = s.hinge.ownRound.1.barring ∧ s.ownRound.hinge.history = s.hinge.history := by
  obtain ⟨barring, history⟩ := s.roundCounted.agePeers.hingeRound_barring
  obtain ⟨barring', history'⟩ := s.roundCounted.agePeers_barring
  have aged (h h' : HingeStage) (e : h.barring = h'.barring) : h.ownRound.1.barring = h'.ownRound.1.barring := by
    simp only [HingeStage.ownRound, e]
    split
    · split <;> rfl
    · exact e
  rw [ownRound_eq, beginSweepIfNone_eq]
  exact ⟨barring.trans (aged _ _ barring'), history.trans history'⟩

end State
end Sys2Proof.Machine

open Sys2Proof Sys2Proof.Machine

/-- Settles O11. -/
theorem ownRoundExpiry : Obligations.OwnRoundExpiry := by
  intro left s timer
  let u := s.advance left
  have next : exec .ownRoundExpiry s = .next u.ownRound := by simp [exec, execOwnRoundExpiry, timer, u]
  obtain ⟨barring, history⟩ := u.ownRound_hinge
  obtain ⟨counts, opens, stays, -⟩ := u.hinge.ownRound_barring
  have round := u.ownRound_round
  have lost : s.station.state = .paired → (∃ e, s.partner = some e ∧ (e.stale || decide (2 ≤ e.age)) = true) →
      u.ownRound.fault.Holds .partnerLost ∧ u.ownRound.station.state = .solo ∧ u.ownRound.apply.link = 0 := by
    rintro paired ⟨e, partner, stale⟩
    obtain ⟨holds, solo, zero⟩ := State.agePeers_lost (s := u.roundCounted) (e := e) paired partner
      (by simpa [Entry.aged] using stale)
    rw [State.ownRound_eq, State.beginSweepIfNone_fault, State.beginSweepIfNone_station, State.beginSweepIfNone_apply,
      State.hingeRound_fault, State.hingeRound_station]
    exact ⟨holds, solo, State.hingeRound_link (by simp [solo]) zero⟩
  refine ⟨_, next, by rw [round]; rfl, by rw [round]; rfl, fun _ _ => by rw [round], ?_, fun n e => ?_, fun e => ?_,
    fun e => ?_, lost, by simp [u, State.advance], history.trans rfl, u.ownRound_apply.trans rfl, by rw [round]; rfl,
    by rw [round]; rfl, by rw [round]; rfl, by rw [round]; rfl, by rw [round]; rfl, by rw [round]; rfl, ?_⟩
  · rw [State.ownRound_eq, State.beginSweepIfNone_peers, State.hingeRound_peers, State.agePeers_peers]
    exact ageEntries_eq s.peers
  · exact barring.trans (counts n e)
  · rw [State.ownRound_eq, State.beginSweepIfNone_eq]
    exact State.hingeRound_not_barred ((State.agePeers_barring _).1.trans e)
  · rw [barring, stays e]; rfl
  · simp [u, State.advance]
end

section
/-!
SUPPORT. The own STATE post that stays, leaves or is replaced, and the ALERT of a kind that joins the queue.
-/

namespace Sys2Proof.Machine.State

theorem queueOpen_iff (s : State) : s.queueOpen = true ↔ s.receiving = true ∧ s.station.state ≠ .mute := by
  simp [queueOpen]

/-! ### The own STATE post -/

/-- An own STATE handed while the waiting one is in transmission is held (R18). -/
theorem handState_held {s : State} (p : OwnState) (open_ : s.queueOpen = true) (sending : s.line.sending = some .state)
    (waiting : s.line.state ≠ none) : s.handState p = { s with round := { s.round with held := some p } } := by
  simp only [handState, open_, if_true, sending, Option.isSome_iff_ne_none.mpr waiting, and_self]
  rfl

/-- One handed while another waits takes its place, with its seq and no aborts (R18). -/
theorem handState_waiting {s : State} (p : OwnState) {q : Queued OwnState} (open_ : s.queueOpen = true)
    (idle : s.line.sending ≠ some .state) (waiting : s.line.state = some q) :
    s.handState p = { s with line := { s.line with state := some ⟨p.withSeq q.post.contents.seq, 0⟩ } } := by
  simp only [handState, open_, if_true, idle, false_and, if_false, LineController.takeState_waiting p s.line q waiting, countIf,
    Bool.false_eq_true]
  rfl

/-- One handed to a queue with room in which none waits joins it (R140). -/
theorem handState_room {s : State} (p : OwnState) (open_ : s.queueOpen = true) (none : s.line.state = none)
    (room : s.line.waiting < 4) : s.handState p = { s with line := { s.line with state := some ⟨p, 0⟩ } } := by
  simp only [handState, open_, if_true, LineController.takeState_room p s.line none room, none, Option.isSome_none,
    Bool.false_eq_true, and_false, if_false, countIf]
  rfl

/-- A held composition joins in place of the waiting own STATE, with its seq and no aborts (R18). -/
theorem releaseHeld_waiting {s : State} {p : OwnState} {q : Queued OwnState} (held : s.round.held = some p)
    (open_ : s.queueOpen = true) (idle : s.line.sending ≠ some .state) (waiting : s.line.state = some q) :
    s.releaseHeld = { s with
      round := { s.round with held := none }
      line := { s.line with state := some ⟨p.withSeq q.post.contents.seq, 0⟩ } } := by
  simp only [releaseHeld, held]
  exact handState_waiting (s := s.withRound _) p open_ idle waiting

/-- A held composition joins a queue with room in which no own STATE waits (R18, R140). -/
theorem releaseHeld_room {s : State} {p : OwnState} (held : s.round.held = some p)
    (open_ : s.queueOpen = true) (none : s.line.state = none) (room : s.line.waiting < 4) :
    s.releaseHeld = { s with
      round := { s.round with held := Option.none }
      line := { s.line with state := some ⟨p, 0⟩ } } := by
  simp only [releaseHeld, held]
  exact handState_room (s := s.withRound _) p open_ none room

theorem releaseHeld_none {s : State} (held : s.round.held = none) : s.releaseHeld = s := by
  simp [releaseHeld, held]

/-- The own STATE post after its transmission has ended without success (R65, R18): a held composition takes its place, or it
takes a pending rewrite. -/
def retried (s : State) (q : Queued OwnState) : Queued OwnState :=
  match s.round.held with
  | some h => ⟨h.withSeq q.post.contents.seq, 0⟩
  | none => if s.apply.rewritePending then { q with post := q.post.rewritten s.apply.proposal s.apply.code } else q

theorem settleRetry_eq {s : State} {q : Queued OwnState} (open_ : s.queueOpen = true) (idle : s.line.sending ≠ some .state)
    (waiting : s.line.state = some q) :
    s.settleRetry = { s with
      line := { s.line with state := some (s.retried q) }
      round := { s.round with held := none }, apply := { s.apply with rewritePending := false } } := by
  let r : Queued OwnState :=
    if s.apply.rewritePending then { q with post := q.post.rewritten s.apply.proposal s.apply.code } else q
  have seq : r.post.contents.seq = q.post.contents.seq := by simp only [r]; split <;> rfl
  let u : State := { s with
    line := { s.line with state := some r }, apply := { s.apply with rewritePending := false } }
  have rewritten : s.settleRetry = u.releaseHeld := by
    simp only [settleRetry, u, r]
    split
    · simp only [waiting, Option.map_some]; rfl
    · rw [← waiting]; rfl
  rw [rewritten]
  cases held : s.round.held with
  | none =>
    rw [releaseHeld_none (s := u) held]
    simp only [retried, held, u, r]
    rw [← held]
  | some h =>
    rw [releaseHeld_waiting (s := u) (q := r) held open_ idle rfl, seq]
    simp only [retried, held, u]

/-! ### The ALERT of a kind -/

/-- What an ALERT handed over does to the queue, and the drop it may count (R140). -/
theorem handAlert_line {u : State} (open_ : u.queueOpen = true) (a : AlertContents) :
    (u.handAlert a).line = (u.line.takeAlert a).1 ∧
      (u.handAlert a).fault.line = if (u.line.takeAlert a).2 then u.fault.line.bump else u.fault.line := by
  simp only [handAlert, open_, if_true, countIf]
  split <;> exact ⟨rfl, rfl⟩

/-- Logging a kind in a station whose queue is open: it is held already, or its ALERT is handed (R167, R169, R140). -/
theorem logKind_cases {k : Kind} (hk : k ≠ .addressClash) {s : State} (open_ : s.queueOpen = true) :
    ((∃ old, (s.fault.log k.severity).first = some old ∧ (old.kind = k ∨ k ∈ (s.fault.log k.severity).next)) ∧
      s.logKind k = s) ∨
    (¬(∃ old, (s.fault.log k.severity).first = some old ∧ (old.kind = k ∨ k ∈ (s.fault.log k.severity).next)) ∧
      (s.logKind k).line =
        (s.line.takeAlert (s.alertFor k (decide ((s.fault.log k.severity).first = none)))).1 ∧
      (s.logKind k).fault.line =
        if (s.line.takeAlert (s.alertFor k (decide ((s.fault.log k.severity).first = none)))).2 then s.fault.line.bump
        else s.fault.line) := by
  have handed (v : ClassLog) (first : Bool) (h : (s.fault.log k.severity).add k (s.snapshot k) = some (v, first)) :
      (s.logKind k).line = (s.line.takeAlert (s.alertFor k first)).1 ∧
        (s.logKind k).fault.line =
          if (s.line.takeAlert (s.alertFor k first)).2 then s.fault.line.bump else s.fault.line := by
    have line (c : Class) (b : Bool) : { s.fault.withLog c v with fltAsserted := b }.line = s.fault.line := by
      cases c <;> rfl
    have open' (f : FaultUnit) : (s.withFault f).queueOpen = true := open_
    obtain ⟨taken, drop⟩ := handAlert_line (open' _) (s.alertFor k first)
    simp only [logKind, h, hk, if_false]
    exact ⟨taken, drop.trans (by simp only [withFault_fault, withFault_line, line])⟩
  rcases (s.fault.log k.severity).add_cases k (s.snapshot k) with ⟨none, e⟩ | ⟨old, some, held, e⟩ | ⟨old, some, d, d', e⟩
  · refine .inr ⟨by simp [none], ?_⟩
    simpa [none] using handed _ _ e
  · exact .inl ⟨⟨old, some, held⟩, by simp [logKind, e]⟩
  · refine .inr ⟨by simp [some, d, d'], ?_⟩
    simpa [some] using handed _ _ e

theorem takeAlert_room (a : AlertContents) {l : LineController} (h : l.waiting < 4) :
    l.takeAlert a = ({ l with alerts := l.alerts ++ [⟨a, 0⟩] }, false) := by
  simp [LineController.takeAlert, h]

/-- The final STATE stays waiting when an ALERT joins a queue with room (R140). -/
theorem logKind_state_room {k : Kind} (hk : k ≠ .addressClash) {s : State} (open_ : s.queueOpen = true)
    (room : s.line.waiting < 4) : (s.logKind k).line.state = s.line.state ∧ (s.logKind k).fault.line = s.fault.line := by
  rcases logKind_cases hk open_ with ⟨-, e⟩ | ⟨-, line, drop⟩
  · rw [e]; exact ⟨rfl, rfl⟩
  · rw [line, drop, takeAlert_room _ room]; exact ⟨rfl, rfl⟩

/-! ### The end of an event in SHELF -/

theorem finalWaiting_iff (s : State) : s.finalWaiting = true ↔
    (∃ q, s.line.state = some q ∧ q.post.final = true) ∨ (∃ p, s.round.held = some p ∧ p.final = true) := by
  simp only [finalWaiting]
  cases s.line.state <;> cases s.round.held <;> simp

/-- The stages stay on while the final STATE waits (R142). -/
theorem settleShelf_waiting (vIn : Nat) {s : State} (h : s.station.state = .shelf → s.finalWaiting = true) :
    s.settleShelf vIn = s := by
  rcases s.settleShelf_cases vIn with ⟨shelf, -, no, -⟩ | e
  · simp [h shelf] at no
  · exact e

/-- With the final STATE sent or failed they are switched off (R159). -/
theorem settleShelf_off (vIn : Nat) {s : State} (shelf : s.station.state = .shelf) (on : s.station.off = false)
    (no : s.finalWaiting = false) : s.settleShelf vIn = s.switchOff vIn := by
  simp [settleShelf, shelf, on, no]

end Sys2Proof.Machine.State

open Sys2Proof Sys2Proof.Machine

/-- Settles O35: the transmission stops, and an own STATE is settled as a post that is to be sent again. -/
theorem lostArbitrationKeepsPost : Obligations.LostArbitrationKeepsPost := by
  intro bits k s sending on awake some
  have open_ : (s.stopSending bits).queueOpen = true := (State.queueOpen_iff s).mpr ⟨on, awake⟩
  by_cases state : k = .state
  · subst state
    obtain ⟨q, hq⟩ := Option.ne_none_iff_exists'.mp (some rfl)
    have next : exec (.lostArbitration bits) s = .next (s.stopSending bits).settleRetry := by
      simp [exec, execLostArbitration, sending]
    rw [State.settleRetry_eq open_ nofun hq] at next
    refine ⟨_, next, rfl, rfl, rfl, rfl, rfl, fun h => absurd rfl h, fun _ => ⟨rfl, rfl, fun q' hq' => ?_⟩, rfl⟩
    obtain rfl : q = q' := Option.some.inj (hq.symm.trans hq')
    refine ⟨fun h held => ?_, fun held kept => ?_, fun held pending => ?_⟩
    · simp [State.retried, State.stopSending, held, OwnState.withSeq]
    · simp [State.retried, State.stopSending, held, kept]
    · simp [State.retried, State.stopSending, held, pending, OwnState.rewritten]
  · have next : exec (.lostArbitration bits) s = .next (s.stopSending bits) := by
      cases k <;> simp_all [exec, execLostArbitration]
    exact ⟨_, next, rfl, rfl, rfl, rfl, rfl, fun _ => ⟨rfl, rfl, rfl⟩, fun h => absurd h state, rfl⟩
end

section
/-!
SUPPORT. ECHO_ABORT: what an abort leaves of the post, and TX_FAIL at the fourth.
-/

namespace Sys2Proof.Machine

theorem Queued.aborted_below {α : Type} {q : Queued α} (n : q.aborts < 3) :
    q.aborted = some { q with aborts := q.aborts + 1 } := by
  simp [Queued.aborted]; omega

theorem Queued.aborted_fourth {α : Type} {q : Queued α} (n : 3 ≤ q.aborts) : q.aborted = none := by
  simp [Queued.aborted]; omega

namespace State

/-! ### The abort, kind by kind -/

section
variable {s : State} (bits : List Bool)

/-- An echo abort counted, before the post takes it. -/
def echoed (bits : List Bool) (s : State) : State := (s.stopSending bits).count .lineBit

theorem echoed_line (bits : List Bool) (s : State) :
    (s.echoed bits).line = { s.line with sending := none, receiveBuffer := bits, idleUs := 0, lowUs := 0 } := rfl

theorem echoMismatch_eq (k : PostKind) (bits : List Bool) (s : State) :
    s.echoMismatch k bits = (s.echoed bits).abortPost k := rfl

theorem raise_txFail (s : State) : s.raise .txFail = s.logKind .txFail := raise_degraded _ _ rfl

theorem echoAbort_alert {a : Queued AlertContents} {rest : List (Queued AlertContents)} (h : s.line.alerts = a :: rest) :
    (a.aborts < 3 → s.echoAbort .alert bits =
      (s.echoed bits).withLine { (s.echoed bits).line with alerts := { a with aborts := a.aborts + 1 } :: rest }) ∧
    (3 ≤ a.aborts → s.echoAbort .alert bits =
      ((s.echoed bits).withLine { (s.echoed bits).line with alerts := rest }).logKind .txFail) := by
  have waiting : (s.echoed bits).line.alerts = a :: rest := h
  constructor <;> intro n
  · simp [echoAbort, echoMismatch_eq, abortPost, waiting, abortFirst, Queued.aborted_below n]
  · simp [echoAbort, echoMismatch_eq, abortPost, waiting, abortFirst, Queued.aborted_fourth n, raise_txFail]

theorem echoAbort_reply {a : Queued ReplyContents} {rest : List (Queued ReplyContents)} (h : s.line.replies = a :: rest) :
    (a.aborts < 3 → s.echoAbort .reply bits =
      (s.echoed bits).withLine { (s.echoed bits).line with replies := { a with aborts := a.aborts + 1 } :: rest }) ∧
    (3 ≤ a.aborts → s.echoAbort .reply bits =
      ((s.echoed bits).withLine { (s.echoed bits).line with replies := rest }).logKind .txFail) := by
  have waiting : (s.echoed bits).line.replies = a :: rest := h
  constructor <;> intro n
  · simp [echoAbort, echoMismatch_eq, abortPost, waiting, abortFirst, Queued.aborted_below n]
  · simp [echoAbort, echoMismatch_eq, abortPost, waiting, abortFirst, Queued.aborted_fourth n, raise_txFail]

theorem echoAbort_state {q : Queued OwnState} (h : s.line.state = some q) :
    (q.aborts < 3 → s.echoAbort .state bits =
      ((s.echoed bits).withLine { (s.echoed bits).line with state := some { q with aborts := q.aborts + 1 } }).settleRetry) ∧
    (3 ≤ q.aborts → s.echoAbort .state bits = (s.echoed bits).removeState.logKind .txFail) := by
  have waiting : (s.echoed bits).line.state = some q := h
  constructor <;> intro n
  · simp [echoAbort, echoMismatch_eq, abortPost, waiting, Queued.aborted_below n]
  · simp [echoAbort, echoMismatch_eq, abortPost, waiting, Queued.aborted_fourth n, raise_txFail]

end

/-! ### TX_FAIL -/

/-- What TX_FAIL does to a station whose post has been removed: `u` before it, `t` after, `s` the state of the event (R133,
R167, R169). -/
def TxFailed (s t u : State) : Prop :=
  t.fault.Holds .txFail ∧
  (∀ f, u.fault.degraded.first = some f → f.kind = .txFail ∨ .txFail ∈ u.fault.degraded.next → t = u) ∧
  (u.fault.degraded.first = none ∨
      (∃ f, u.fault.degraded.first = some f ∧ f.kind ≠ .txFail ∧ .txFail ∉ u.fault.degraded.next) →
    t = { u with line := t.line, fault := t.fault } ∧ t = u.logKind .txFail ∧
    (u.line.waiting < 4 →
      t.line = { u.line with alerts := u.line.alerts ++
        [⟨⟨.txFail, decide (u.fault.degraded.first = none), s.station.state, s.round.stamp, s.shownVCell,
          s.shownTCell⟩, 0⟩] } ∧
      t.fault.line = s.fault.line.bump))

theorem txFailed_logKind {s u : State} (open_ : u.queueOpen = true) (counted : u.fault.line = s.fault.line.bump)
    (alert : ∀ first, u.alertFor .txFail first = s.alertFor .txFail first) : TxFailed s (u.logKind .txFail) u := by
  refine ⟨(logKind_holds _ _ u).mpr (.inr rfl), fun f some held => ?_, fun new => ⟨logKind_eq _ u, rfl, fun room => ?_⟩⟩
  · rcases logKind_cases (k := .txFail) nofun open_ with ⟨-, e⟩ | ⟨no, -⟩
    · exact e
    · exact absurd ⟨f, some, held⟩ no
  · rcases logKind_cases (k := .txFail) nofun open_ with ⟨⟨f, some, held⟩, -⟩ | ⟨-, line, drop⟩
    · change u.fault.degraded.first = Option.some f at some
      rcases new with none | ⟨f', some', kind, next⟩
      · rw [none] at some; cases some
      · obtain rfl : f = f' := Option.some.inj (some.symm.trans some')
        exact absurd held (not_or.mpr ⟨kind, next⟩)
    · rw [line, drop, takeAlert_room _ room, alert]
      exact ⟨rfl, counted⟩

/-! ### The queue once a post is removed -/

/-- In SHELF the final STATE outlasts the ALERT of TX_FAIL where the queue has room, and the stages stay on (R140, R142). -/
theorem settleShelf_txFail (vIn : Nat) {u : State} (open_ : u.queueOpen = true)
    (room : u.line.waiting < 4) (final : u.station.state = .shelf → u.finalWaiting = true) :
    (u.logKind .txFail).settleShelf vIn = u.logKind .txFail := by
  refine settleShelf_waiting vIn fun shelf => ?_
  have state := (logKind_state_room (k := .txFail) nofun open_ room).1
  have held : (u.logKind .txFail).round = u.round := by rw [logKind_eq]
  rw [show (u.logKind .txFail).finalWaiting = u.finalWaiting by simp only [finalWaiting, state, held]]
  exact final (by rwa [logKind_station] at shelf)

/-- An ALERT or a REPLY removed at its fourth abort leaves the final STATE waiting, and the ALERT of TX_FAIL joins (R133). -/
theorem txFailed_removed (bits : List Bool) (vIn : Nat) {s : State} {l : LineController} (open_ : s.queueOpen = true)
    (final : s.station.state = .shelf → s.finalWaiting = true) (four : s.line.waiting ≤ 4) (kept : l.state = s.line.state)
    (less : l.waiting + 1 = s.line.waiting) :
    TxFailed s ((((s.echoed bits).withLine l).logKind .txFail).settleShelf vIn) ((s.echoed bits).withLine l) := by
  have open' : ((s.echoed bits).withLine l).queueOpen = true := open_
  have waits : ((s.echoed bits).withLine l).finalWaiting = s.finalWaiting := by
    simp only [finalWaiting, withLine_line, kept]
    rfl
  rw [settleShelf_txFail vIn open' (show l.waiting < 4 by omega) (fun shelf => waits.trans (final shelf))]
  exact txFailed_logKind open' rfl fun _ => rfl

theorem waiting_state_none (l : LineController) {q : Queued OwnState} (h : l.state = some q) :
    { l with state := none }.waiting < l.waiting := by
  simp only [LineController.waiting, h]
  simp

/-- With no STATE left after TX_FAIL, the stages go off (R140, R142, R159). -/
theorem settleShelf_txFail_off (vIn : Nat) {u : State} (shelf : u.station.state = .shelf) (on : u.station.off = false)
    (noHeld : u.round.held = none) (gone : (u.logKind .txFail).line.state = none) :
    (u.logKind .txFail).settleShelf vIn = (u.logKind .txFail).switchOff vIn :=
  settleShelf_off vIn (by simpa using shelf) (by simpa using on) (by simp [finalWaiting, gone, noHeld])

/-- In a full queue a REPLY gives way to an ALERT, and the STATE stays (R140). -/
theorem takeAlert_full_reply (a : AlertContents) {l : LineController} (full : l.waiting = 4) (idle : l.sending = none)
    (replies : l.replies ≠ []) : (l.takeAlert a).1.state = l.state := by
  have some : l.dropReply = some { l with replies := l.replies.dropLast } := by
    simp [LineController.dropReply, idle, replies]
  simp [LineController.takeAlert, full, some]

/-- In a full queue without a REPLY the STATE gives way to an ALERT (R140). -/
theorem takeAlert_full_state (a : AlertContents) {l : LineController} (full : l.waiting = 4) (idle : l.sending = none)
    (replies : l.replies = []) : (l.takeAlert a).1.state = none := by
  have none : l.dropReply = none := by simp [LineController.dropReply, replies]
  simp only [LineController.takeAlert, full, none, LineController.dropState, idle]
  cases h : l.state <;> simp [h]

/-- TX_FAIL in a full queue with a REPLY leaves the STATE waiting (R140). -/
theorem logKind_txFail_reply {u : State} (open_ : u.queueOpen = true) (full : u.line.waiting = 4) (idle : u.line.sending = none)
    (replies : u.line.replies ≠ []) : (u.logKind .txFail).line.state = u.line.state := by
  rcases logKind_cases (k := .txFail) nofun open_ with ⟨-, e⟩ | ⟨-, line, -⟩
  · rw [e]
  · rw [line, takeAlert_full_reply _ full idle replies]

/-- TX_FAIL new to the log displaces the STATE from a full queue without a REPLY (R140). -/
theorem logKind_txFail_displaces {u : State} (open_ : u.queueOpen = true) (full : u.line.waiting = 4)
    (idle : u.line.sending = none) (replies : u.line.replies = []) (fresh : ¬u.fault.Holds .txFail) :
    (u.logKind .txFail).line.state = none := by
  rcases logKind_cases (k := .txFail) nofun open_ with ⟨⟨f, first, held⟩, -⟩ | ⟨-, line, -⟩
  · exact absurd (held.imp (fun e => ⟨f, first, e⟩) id) fresh
  · rw [line, takeAlert_full_state _ full idle replies]

theorem switchOff_holds (vIn : Nat) (k : Kind) (s : State) : (s.switchOff vIn).fault.Holds k ↔ s.fault.Holds k := by
  cases k <;> rfl

/-- The end of an event in SHELF leaves the log as it is. -/
theorem settleShelf_holds (vIn : Nat) (k : Kind) (s : State) : (s.settleShelf vIn).fault.Holds k ↔ s.fault.Holds k := by
  rcases s.settleShelf_cases vIn with ⟨-, -, -, e⟩ | e
  · rw [e, switchOff_holds]
  · rw [e]

theorem settleShelf_round (vIn : Nat) {s : State} (noHeld : s.round.held = none) : (s.settleShelf vIn).round = s.round := by
  rcases s.settleShelf_cases vIn with ⟨-, -, -, e⟩ | e
  · rw [e, switchOff, ← noHeld]
  · rw [e]

/-- The own STATE post removed, with no composition held (R133, R65). -/
theorem removeState_none {s : State} (held : s.round.held = none) :
    s.removeState = { s with
      line := { s.line with state := none }, apply := { s.apply with rewritePending := false }
      round := { s.round with held := none } } := by
  have kept : { s.round with held := none } = s.round := by rw [← held]
  rw [kept]
  exact releaseHeld_none (s := (s.withLine { s.line with state := none }).withApply _) held

/-- The own STATE post removed, and a held composition in its place (R133, R18). -/
theorem removeState_held {s : State} {p : OwnState} {q : Queued OwnState} (held : s.round.held = some p)
    (open_ : s.queueOpen = true) (waiting : s.line.state = some q) (four : s.line.waiting ≤ 4) :
    s.removeState = { s with
      line := { s.line with state := some ⟨p, 0⟩ }, apply := { s.apply with rewritePending := false }
      round := { s.round with held := none } } := by
  have room : { s.line with state := none }.waiting < 4 := by
    simp only [LineController.waiting, waiting] at four ⊢
    simp at four ⊢
    omega
  let u : State := { s with line := { s.line with state := none }, apply := { s.apply with rewritePending := false } }
  exact releaseHeld_room (s := u) held open_ rfl room

/-! ### The own STATE settled -/

theorem retried_held {s : State} {p : OwnState} (held : s.round.held = some p) (q : Queued OwnState) :
    s.retried q = ⟨p.withSeq q.post.contents.seq, 0⟩ := by
  simp only [retried, held]

theorem retried_none {s : State} (held : s.round.held = none) (q : Queued OwnState) :
    s.retried q = if s.apply.rewritePending then { q with post := q.post.rewritten s.apply.proposal s.apply.code } else q := by
  simp only [retried, held]

theorem retried_final_held {s : State} {p : OwnState} (held : s.round.held = some p) (q : Queued OwnState) :
    (s.retried q).post.final = p.final := by
  rw [retried_held held]; rfl

theorem retried_final_none {s : State} (held : s.round.held = none) (q : Queued OwnState) :
    (s.retried q).post.final = q.post.final := by
  rw [retried_none held]; split <;> rfl

end State
end Sys2Proof.Machine

open Sys2Proof Sys2Proof.Machine

/-- Settles O36, kind by kind: below the fourth abort the post is settled, and at the fourth TX_FAIL is logged on what its
removal leaves, with SHELF settled last. -/
theorem echoAbortCounts : Obligations.EchoAbortCounts := by
  intro bits vIn k s sending on awake four held finalWaits final
  have open_ : s.queueOpen = true := (State.queueOpen_iff s).mpr ⟨on, awake⟩
  have finalState : s.station.state = .shelf → s.finalWaiting = true := fun shelf => by
    obtain ⟨p, pf, h | ⟨h, st⟩⟩ := final shelf
    · exact (State.finalWaiting_iff s).mpr (.inr ⟨p, h, pf⟩)
    · obtain ⟨q, hq, rfl⟩ := Option.map_eq_some_iff.mp st
      exact (State.finalWaiting_iff s).mpr (.inl ⟨q, hq, pf⟩)
  have heldFinal {p : OwnState} (h : held = some p) (shelf : s.station.state = .shelf) : p.final = true := by
    obtain ⟨p', pf, h' | ⟨h', -⟩⟩ := final shelf
    · exact Option.some.inj (h.symm.trans h') ▸ pf
    · rw [h] at h'; cases h'
  have openLine (l : LineController) : ((s.echoed bits).withLine l).queueOpen = true := open_
  refine ⟨(s.echoAbort k bits).settleShelf vIn, by simp [exec, execEchoAbort, sending], ?_⟩
  intro counted stopped rewritten settled failed
  refine ⟨?_, ?_, ?_, ?_⟩
  · rintro a rest rfl alerts
    obtain ⟨below, fourth⟩ := State.echoAbort_alert bits alerts
    refine ⟨fun n => ?_, fun n => ?_⟩
    · rw [below n]
      exact State.settleShelf_waiting vIn finalState
    · change State.TxFailed s _ _
      rw [fourth n]
      exact State.txFailed_removed bits vIn open_ finalState four rfl (by
        simp [LineController.waiting, State.echoed_line, alerts]; omega)
  · rintro a rest rfl replies
    obtain ⟨below, fourth⟩ := State.echoAbort_reply bits replies
    refine ⟨fun n => ?_, fun n => ?_⟩
    · rw [below n]
      exact State.settleShelf_waiting vIn finalState
    · change State.TxFailed s _ _
      rw [fourth n]
      exact State.txFailed_removed bits vIn open_ finalState four rfl (by
        simp [LineController.waiting, State.echoed_line, replies]; omega)
  · rintro q rfl state n
    have settles := (State.echoAbort_state bits state).1 n
    rw [State.settleRetry_eq (s := (s.echoed bits).withLine _) (q := { q with aborts := q.aborts + 1 }) (openLine _)
      (by rintro ⟨⟩) rfl] at settles
    have stays : (s.echoAbort .state bits).settleShelf vIn = s.echoAbort .state bits := by
      refine State.settleShelf_waiting vIn fun shelf => (State.finalWaiting_iff _).mpr (.inl ?_)
      rw [settles] at shelf ⊢
      refine ⟨_, rfl, ?_⟩
      obtain ⟨p, pf, h | ⟨h, waits⟩⟩ := final shelf
      · exact (State.retried_final_held (s := (s.echoed bits).withLine _) h _).trans pf
      · obtain rfl : q.post = p := by simpa [state] using waits
        exact (State.retried_final_none (s := (s.echoed bits).withLine _) h _).trans pf
    rw [stays, settles]
    refine ⟨fun h => ?_, fun p h => ?_⟩
    · have post (l : LineController) : ((s.echoed bits).withLine l).retried { q with aborts := q.aborts + 1 } =
          ⟨rewritten q.post, q.aborts + 1⟩ := by
        rw [State.retried_none (s := (s.echoed bits).withLine l) h]
        change (if s.apply.rewritePending then _ else _) = _
        by_cases pending : s.apply.rewritePending
        · simp only [rewritten, if_pos pending]; rfl
        · simp only [rewritten, if_neg pending]
      rw [post]
      rfl
    · rw [State.retried_held (s := (s.echoed bits).withLine _) h]
      rfl
  · rintro q rfl state n
    have fourth := (State.echoAbort_state bits state).2 n
    have removed (h : held = none) : (s.echoed bits).removeState = settled { stopped with state := none } :=
      State.removeState_none (s := s.echoed bits) h
    have replaced (p : OwnState) (h : held = some p) :
        (s.echoed bits).removeState = settled { stopped with state := some ⟨p, 0⟩ } :=
      State.removeState_held (s := s.echoed bits) h open_ state four
    have openSettled (l : LineController) : (settled l).queueOpen = true := open_
    have fails (l : LineController) (h : (s.echoed bits).removeState = settled l)
        (settles : ((settled l).logKind .txFail).settleShelf vIn = (settled l).logKind .txFail) : failed (settled l) := by
      change State.TxFailed s ((s.echoAbort .state bits).settleShelf vIn) _
      rw [fourth, h, settles]
      exact State.txFailed_logKind (openSettled l) rfl fun _ => rfl
    refine ⟨fun h notShelf => ?_, fun h shelf => ?_, fun p h room => ?_, fun p h shelf full => ?_⟩
    · exact fails _ (removed h) (State.settleShelf_outside vIn _ (by simpa [settled] using notShelf))
    · have off : s.station.off = false := ((State.receiving_iff s).mp on).2
      have room : (settled { stopped with state := none }).line.waiting < 4 :=
        lt_of_lt_of_le (State.waiting_state_none s.line state) four
      obtain ⟨gone, drop⟩ := State.logKind_state_room (k := .txFail) nofun (openSettled _) room
      rw [fourth, removed h, State.settleShelf_txFail_off (u := settled _) vIn shelf off rfl gone]
      exact ⟨(State.switchOff_holds _ _ _).mpr ((State.logKind_holds _ _ _).mpr (.inr rfl)), drop, rfl, rfl,
        by simp [State.switchOff, settled], rfl, rfl, rfl, rfl, by simp [State.switchOff, settled],
        by simp [State.switchOff, settled], by simp [State.switchOff, settled]⟩
    · refine fails _ (replaced p h) ?_
      by_cases shelf : s.station.state = .shelf
      · have still : (settled { stopped with state := some ⟨p, 0⟩ }).line.waiting < 4 := by
          have : s.line.waiting < 4 := room.resolve_left (not_not.mpr shelf)
          simpa [settled, stopped, LineController.waiting, state] using this
        exact State.settleShelf_txFail vIn (openSettled _) still fun _ =>
          (State.finalWaiting_iff _).mpr (.inl ⟨_, rfl, heldFinal h shelf⟩)
      · exact State.settleShelf_outside vIn _ (by simpa [settled] using shelf)
    · have fullSettled : (settled { stopped with state := some ⟨p, 0⟩ }).line.waiting = 4 := by
        simpa [settled, stopped, LineController.waiting, state] using full
      rw [fourth, replaced p h]
      have noHeld : ((settled { stopped with state := some ⟨p, 0⟩ }).logKind .txFail).round.held = none := by
        rw [State.logKind_round]
      refine ⟨(State.settleShelf_holds vIn _ _).mpr ((State.logKind_holds _ _ _).mpr (.inr rfl)), ?_, ?_, ?_, fun replies => ?_,
        fun replies => or_iff_not_imp_left.mpr fun fresh => ?_⟩
      · rw [State.settleShelf_round vIn noHeld]; exact noHeld
      · rw [State.settleShelf_round vIn noHeld, State.logKind_round]
      · rw [State.settleShelf_round vIn noHeld, State.logKind_round]
      · have kept : ((settled { stopped with state := some ⟨p, 0⟩ }).logKind .txFail).line.state = some ⟨p, 0⟩ := by
          rw [State.logKind_txFail_reply (openSettled _) fullSettled rfl replies]
        rw [State.settleShelf_waiting vIn fun _ => (State.finalWaiting_iff _).mpr (.inl ⟨_, kept, heldFinal h shelf⟩)]
        exact ⟨kept, State.logKind_station _ _⟩
      · have off : s.station.off = false := ((State.receiving_iff s).mp on).2
        have gone := State.logKind_txFail_displaces (openSettled _) fullSettled rfl replies fresh
        rw [State.settleShelf_txFail_off (u := settled _) vIn shelf off rfl gone]
        exact ⟨by simp [State.switchOff, settled], rfl⟩
end

section
/-!
SUPPORT. OWN_STATE_SENT: the setpoints that a post sent leads to, and the frame of the end of an event in SHELF.
-/

namespace Sys2Proof.Machine.State

/-! ### The frame of the end of an event in SHELF -/

theorem settleShelf_apply (vIn : Nat) {s : State} (h : s.apply.rewritePending = false) :
    (s.settleShelf vIn).apply = s.apply := by
  rcases s.settleShelf_cases vIn with ⟨-, -, -, e⟩ | e <;> rw [e]
  rw [switchOff, ← h]

theorem settleShelf_port (vIn : Nat) (s : State) : (s.settleShelf vIn).port.port = s.port.port := by
  rcases s.settleShelf_cases vIn with ⟨-, -, -, e⟩ | e <;> rw [e]
  rfl

theorem settleShelf_state (vIn : Nat) (s : State) : (s.settleShelf vIn).station.state = s.station.state := by
  rcases s.settleShelf_cases vIn with ⟨-, -, -, e⟩ | e <;> rw [e]
  rfl

theorem settleShelf_sending (vIn : Nat) {s : State} (h : s.line.sending = none) : (s.settleShelf vIn).line.sending = none := by
  rcases s.settleShelf_cases vIn with ⟨-, -, -, e⟩ | e <;> rw [e]
  · rfl
  · exact h

theorem settleShelf_noState (vIn : Nat) {s : State} (h : s.line.state = none) : (s.settleShelf vIn).line.state = none := by
  rcases s.settleShelf_cases vIn with ⟨-, -, -, e⟩ | e <;> rw [e]
  · rfl
  · exact h

/-! ### The link judged -/

/-- What the full link judgement reads (R67). -/
theorem judgedLink_congr {s t : State} (posted : t.apply.posted = s.apply.posted)
    (proposal : t.apply.proposal = s.apply.proposal) (hold : t.apply.unansweredHold = s.apply.unansweredHold) (peers : t.peers = s.peers)
    (station : t.station.state = s.station.state) (barred : t.hinge.link = .barred ↔ s.hinge.link = .barred) :
    t.judgedLink = s.judgedLink := by
  simp only [judgedLink, partner, posted, proposal, peers]
  exact if_congr (by rw [station, hold, barred]) rfl rfl

/-- A link handed neither enters nor leaves BARRED (R82). -/
theorem setLink_barred_iff (x : Int) (s : State) : (s.setLink x).hinge.link = .barred ↔ s.hinge.link = .barred := by
  constructor
  · contrapose; exact setLink_not_barred
  · intro h
    simp only [setLink]
    split
    · exact h
    · obtain ⟨-, -, -, link⟩ := HingeStage.hand_state x ((s.withApply { s.apply with link := x }).linkLimitOf x) s.hinge
      simp only [handLink]
      exact link.trans (if_pos h)

/-- A judgement made is found again. -/
theorem judgeLink_judgedLink (s : State) : s.judgeLink.judgedLink = s.judgedLink :=
  judgedLink_congr (by rw [judgeLink_eq]) (by rw [judgeLink_eq]) (by rw [judgeLink_eq]) (by simp) (by simp)
    (setLink_barred_iff _ _)

/-! ### The post sent -/

/-- The setpoints after a post with `p` is sent (R66). -/
theorem takeSent_apply (p : Setting) (s : State) :
    let a := (s.takeSent p).apply
    a.proposal = s.apply.proposal ∧ a.posted = some p ∧ a.draw = (match s.policy.contract with
      | none => (min p.g s.apply.proposal.g).toNat
      | some k => min (min p.g s.apply.proposal.g).toNat k) ∧
    a.charge = (if s.station.state = .latched then s.apply.charge else (min p.c s.apply.proposal.c).toNat) ∧
    a.link = (s.takeSent p).judgedLink ∧ a.unansweredHold = s.apply.unansweredHold := by
  have judged : (s.takeSent p).apply.link = (s.takeSent p).judgedLink := by
    simp only [takeSent, judgeLink_link, judgeLink_judgedLink]
  by_cases latched : s.station.state = .latched
  · refine ⟨?_, ?_, ?_, ?_, judged, ?_⟩
    all_goals
      simp only [takeSent, setDraw_station, withApply_station, if_pos latched]
      rw [judgeLink_eq, setDraw_eq]
      rfl
  · refine ⟨?_, ?_, ?_, ?_, judged, ?_⟩
    all_goals
      simp only [takeSent, setDraw_station, withApply_station, if_neg latched]
      rw [judgeLink_eq, setCharge_eq, setDraw_eq]
      rfl

/-- Barring and port state are not its concern. -/
theorem takeSent_stages (p : Setting) (s : State) :
    (s.takeSent p).hinge.barring = s.hinge.barring ∧ (s.takeSent p).port.port = s.port.port := by
  by_cases latched : s.station.state = .latched
  · simp only [takeSent, setDraw_station, withApply_station, if_pos latched, judgeLink, setLink_barring, setLink_port]
    rw [setDraw_eq]
    exact ⟨rfl, rfl⟩
  · simp only [takeSent, setDraw_station, withApply_station, if_neg latched, judgeLink, setLink_barring, setLink_port]
    rw [setCharge_eq, setDraw_eq]
    exact ⟨rfl, rfl⟩

/-! ### OWN_STATE_SENT -/

/-- The own STATE `q` gone from the line and posted, with the seq counter advanced (R17). -/
def posting (q : Queued OwnState) (s : State) : State := { s with
  line := { s.line with state := none, sending := none, idleUs := 0, lowUs := 0 }
  round := { s.round with
    posted := some q.post.contents.setting, seq := (s.round.seq + 1) % 256
    held := s.round.held.map (OwnState.withSeq ((s.round.seq + 1) % 256)) } }

/-- And with its setpoints taken, before a held composition joins (R66). -/
def sent (q : Queued OwnState) (s : State) : State :=
  let taken := (s.posting q).takeSent q.post.contents.setting
  taken.withApply { taken.apply with rewritePending := false }

theorem ownStateSent_eq (q : Queued OwnState) (s : State) : s.ownStateSent q = (s.sent q).releaseHeld := rfl

theorem sent_line (q : Queued OwnState) (s : State) :
    (s.sent q).line = { s.line with state := none, sending := none, idleUs := 0, lowUs := 0 } := takeSent_line _ _

theorem sent_round (q : Queued OwnState) (s : State) :
    (s.sent q).round = { s.round with
      posted := some q.post.contents.setting, seq := (s.round.seq + 1) % 256
      held := s.round.held.map (OwnState.withSeq ((s.round.seq + 1) % 256)) } := takeSent_round _ _

theorem sent_station (q : Queued OwnState) (s : State) : (s.sent q).station = s.station := takeSent_station _ _

theorem sent_fault (q : Queued OwnState) (s : State) : (s.sent q).fault = s.fault := takeSent_fault _ _

theorem sent_start (q : Queued OwnState) (s : State) : (s.sent q).start = s.start := takeSent_start _ _

theorem sent_queueOpen (q : Queued OwnState) (s : State) : (s.sent q).queueOpen = s.queueOpen := by
  simp only [queueOpen, receiving, strapped, sent_station, sent_start]

theorem sent_apply (q : Queued OwnState) (s : State) :
    let a := (s.sent q).apply
    let p := q.post.contents.setting
    a.proposal = s.apply.proposal ∧ a.posted = some p ∧ a.draw = (match s.policy.contract with
      | none => (min p.g s.apply.proposal.g).toNat
      | some k => min (min p.g s.apply.proposal.g).toNat k) ∧
    a.charge = (if s.station.state = .latched then s.apply.charge else (min p.c s.apply.proposal.c).toNat) ∧
    a.link = (s.sent q).judgedLink ∧ a.rewritePending = false := by
  obtain ⟨proposal, posted, draw, charge, link, -⟩ := takeSent_apply q.post.contents.setting (s.posting q)
  exact ⟨proposal, posted, draw, charge, link.trans (judgedLink_congr rfl rfl rfl rfl rfl Iff.rfl), rfl⟩

theorem sent_stages (q : Queued OwnState) (s : State) :
    (s.sent q).hinge.barring = s.hinge.barring ∧ (s.sent q).port.port = s.port.port :=
  takeSent_stages q.post.contents.setting (s.posting q)

/-- Where the composition held is not left behind by a full queue, it joins with the advanced seq (R18). -/
theorem ownStateSent_held {q : Queued OwnState} {s : State} {h : OwnState} (held : s.round.held = some h)
    (open_ : s.queueOpen = true) (state : s.line.state = some q) (four : s.line.waiting ≤ 4) :
    s.ownStateSent q = { s.sent q with
      round := { (s.sent q).round with held := none }
      line := { (s.sent q).line with state := some ⟨h.withSeq ((s.round.seq + 1) % 256), 0⟩ } } := by
  have room : (s.sent q).line.waiting < 4 := by
    rw [sent_line]; exact lt_of_lt_of_le (waiting_state_none s.line state) four
  exact releaseHeld_room (s := s.sent q) (by rw [sent_round, held]; rfl) (sent_queueOpen q s ▸ open_) (by rw [sent_line]) room

theorem ownStateSent_noHeld (q : Queued OwnState) {s : State} (held : s.round.held = none) : s.ownStateSent q = s.sent q :=
  releaseHeld_none (s := s.sent q) (by rw [sent_round, held]; rfl)

theorem ownStateSent_round {q : Queued OwnState} {s : State} (open_ : s.queueOpen = true) (state : s.line.state = some q)
    (four : s.line.waiting ≤ 4) : (s.ownStateSent q).round = { (s.sent q).round with held := none } := by
  cases held : s.round.held with
  | none => rw [ownStateSent_noHeld q held, sent_round, held]; rfl
  | some h => rw [ownStateSent_held held open_ state four]

theorem ownStateSent_sending {q : Queued OwnState} {s : State} (open_ : s.queueOpen = true) (state : s.line.state = some q)
    (four : s.line.waiting ≤ 4) : (s.ownStateSent q).line.sending = none := by
  cases held : s.round.held with
  | none => rw [ownStateSent_noHeld q held, sent_line]
  | some h => rw [ownStateSent_held held open_ state four]; simp only [sent_line]

end Sys2Proof.Machine.State

open Sys2Proof Sys2Proof.Machine

/-- Settles O32: the setpoints are those of the post sent, and the held composition, where there is one, decides what SHELF
does. -/
theorem ownStateSentApplies : Obligations.OwnStateSentApplies := by
  intro q vIn s on awake sending state four modes
  have open_ : s.queueOpen = true := (State.queueOpen_iff s).mpr ⟨on, awake⟩
  obtain ⟨proposal, posted, draw, charge, link, rewrite⟩ := State.sent_apply q s
  refine ⟨(s.ownStateSent q).settleShelf vIn, by simp [exec, execOwnStateSent, sending, state], ?_⟩
  intro sent switchesOff
  have off : s.station.off = false := ((State.receiving_iff s).mp on).2
  have apply : ((s.ownStateSent q).settleShelf vIn).apply = (s.sent q).apply := by
    rw [State.settleShelf_apply vIn (by rw [State.ownStateSent_eq, State.releaseHeld_apply]; exact rewrite),
      State.ownStateSent_eq, State.releaseHeld_apply]
  have round : ((s.ownStateSent q).settleShelf vIn).round = { (s.sent q).round with held := none } := by
    have left := State.ownStateSent_round open_ state four
    rw [State.settleShelf_round vIn (by rw [left]), left]
  have hinge : ((s.ownStateSent q).settleShelf vIn).hinge = (s.sent q).hinge := by simp [State.ownStateSent_eq]
  have judged : ((s.ownStateSent q).settleShelf vIn).judgedLink = (s.sent q).judgedLink :=
    State.judgedLink_congr (by rw [apply]) (by rw [apply]) (by rw [apply]) (by simp [State.ownStateSent_eq])
      (by rw [State.settleShelf_state]; simp [State.ownStateSent_eq]) (by rw [hinge])
  have joins {h : OwnState} (held : s.round.held = some h) (stays : s.station.state ≠ .shelf ∨ h.final = true) :
      (s.ownStateSent q).settleShelf vIn = s.ownStateSent q := by
    refine State.settleShelf_waiting vIn fun shelf => (State.finalWaiting_iff _).mpr (.inl ?_)
    rw [State.ownStateSent_held held open_ state four] at shelf ⊢
    exact ⟨_, rfl, stays.resolve_left (not_not.mpr (s.sent_station q ▸ shelf))⟩
  have leaves (held : s.round.held = none) (shelf : s.station.state = .shelf) :
      (s.ownStateSent q).settleShelf vIn = (s.sent q).switchOff vIn := by
    rw [State.ownStateSent_noHeld q held, State.settleShelf_off vIn (by rwa [State.sent_station]) (by rwa [State.sent_station])]
    simp [State.finalWaiting, State.sent_line, State.sent_round, held]
  obtain ⟨barring, port⟩ := State.sent_stages q s
  rw [State.sent_round] at round
  refine ⟨by rw [round], by rw [apply]; exact posted, by rw [round], ?_, by rw [round], by rw [apply]; exact rewrite, ?_,
    fun running => ?_, fun latched => ?_, by rw [apply, judged]; exact link, fun shelf => ?_, fun held => ?_,
    fun h held stays => ?_, fun stays held => ?_, fun switched => ?_, by rw [apply]; exact proposal, by rw [round],
    by rw [round], ?_, ?_, ?_, ?_, ?_, ?_, ?_, by rw [hinge]; exact barring,
    by rw [State.settleShelf_port, State.ownStateSent_eq, State.releaseHeld_port]; exact port⟩
  · exact State.settleShelf_sending vIn (State.ownStateSent_sending open_ state four)
  · rw [apply, draw]
    cases s.policy.contract <;> simp only [sent] <;> omega
  · rw [apply, charge, if_neg running]
    simp only [sent]
    omega
  · rw [apply, charge, if_pos latched]
  · obtain ⟨-, atRest, -⟩ := modes
    obtain ⟨-, -, zero⟩ := atRest shelf
    have unpaired : (s.sent q).judgedLink = 0 := State.judgedLink_unpaired (by rw [State.sent_station, shelf]; simp)
    rw [apply]
    refine ⟨proposal.trans zero, ?_, ?_, link.trans unpaired⟩
    · rw [draw, zero]
      cases s.policy.contract <;> simp [Setting.zero]
    · rw [charge, zero, shelf]
      simp [Setting.zero]
  · refine State.settleShelf_noState vIn ?_
    rw [State.ownStateSent_noHeld q held, State.sent_line]
  · rw [joins held stays, State.ownStateSent_held held open_ state four]
    simp only [State.sent_line, State.sent_station, State.sent_fault]
    exact ⟨rfl, trivial, trivial, trivial, trivial⟩
  · have notShelf : s.station.state ≠ .shelf := by simpa [switchesOff, held] using stays
    rw [State.ownStateSent_noHeld q held, State.settleShelf_outside vIn _ (by rwa [State.sent_station])]
    simp only [State.sent_line, State.sent_station, State.sent_fault, and_self]
  · have h : s.station.state = .shelf ∧ s.round.held = none := by simpa [switchesOff] using switched
    rw [leaves h.2 h.1]
    simp only [State.switchOff, State.sent_line, State.sent_station, State.sent_fault, State.sent_start]
    exact ⟨trivial, rfl, trivial, trivial, rfl, rfl, by simp [State.receiving]⟩
  all_goals simp [State.ownStateSent_eq, State.sent, State.posting]
end

section
/-!
SUPPORT. SHELF_ORDER: the part as it enters SHELF, and the final STATE that it composes.
-/

namespace Sys2Proof.Machine

/-- A setpoint of 0 keeps the timers of the charger (R120). -/
theorem Charger.hand_zero_timers (st : StationState) (v : Int) (ma : Nat) (c : Charger) :
    (c.hand st v 0 ma).prechargeTimer = c.prechargeTimer ∧ (c.hand st v 0 ma).bulkTimer = c.bulkTimer := by
  simp only [Charger.hand, Charger.enterHoldOff]
  repeat' split
  all_goals simp_all

namespace State

theorem setCharge_zero_timers (s : State) :
    (s.setCharge 0).charger.prechargeTimer = s.charger.prechargeTimer ∧
      (s.setCharge 0).charger.bulkTimer = s.charger.bulkTimer := by
  simp only [setCharge]
  split
  · exact ⟨rfl, rfl⟩
  · exact Charger.hand_zero_timers _ _ _ _

/-- The part with its applied setpoints at 0, as it enters SHELF (R159, R75). -/
def unloaded (s : State) : State :=
  let s1 := (s.become .shelf).withRound { s.round with inFlight := false, earlyRequest := false, timer := none }
  let s2 := s1.withApply { s1.apply with proposal := .zero, code := 0 }
  ((s2.setDraw 0).setCharge 0).setLink 0

/-- And with its charger and its port at rest, before the final STATE is composed (R126, R111). -/
def shelved (s : State) : State := { s.unloaded with
  charger := s.unloaded.charger.enterHoldOff, port := s.unloaded.port.abortProbe
  station := { s.unloaded.station with shelfWait := some 0 } }

theorem enterShelf_eq (s : State) : s.enterShelf = s.shelved.queueFinal := rfl

theorem unloaded_apply (s : State) : s.unloaded.apply = { s.apply with
    proposal := .zero, code := 0, draw := 0, charge := 0, link := 0, drawMa := s.unloaded.apply.drawMa
    chargeMa := s.unloaded.apply.chargeMa, linkMa := s.unloaded.apply.linkMa } := by
  simp only [unloaded]
  rw [setLink_eq, setCharge_eq, setDraw_eq]
  rfl

theorem shelved_round (s : State) :
    s.shelved.round = { s.round with inFlight := false, earlyRequest := false, timer := none } := by
  simp [shelved, unloaded]

theorem shelved_apply (s : State) : s.shelved.apply = s.unloaded.apply := rfl

theorem shelved_line (s : State) : s.shelved.line = s.line := by simp [shelved, unloaded]

theorem shelved_fault (s : State) : s.shelved.fault = s.fault := by simp [shelved, unloaded]

theorem shelved_start (s : State) : s.shelved.start = s.start := by simp [shelved, unloaded]

theorem shelved_station (s : State) : s.shelved.station = { s.station with state := .shelf, shelfWait := some 0 } := by
  simp [shelved, unloaded, become]

theorem shelved_barring (s : State) : s.shelved.hinge.barring = s.hinge.barring := by
  simp [shelved, unloaded, setLink_barring, become]

theorem shelved_port (s : State) : s.shelved.port.port ≠ .probing := by
  simp only [shelved, InputPort.abortProbe]
  split
  · exact nofun
  · assumption

theorem shelved_charger (s : State) :
    s.shelved.charger.phase = .holdOff ∧ s.shelved.charger.stay = 0 ∧
      s.shelved.charger.prechargeTimer = s.charger.prechargeTimer ∧ s.shelved.charger.bulkTimer = s.charger.bulkTimer := by
  simp only [shelved, unloaded, setLink_charger]
  obtain ⟨pre, bulk⟩ := setCharge_zero_timers (setDraw 0 (((s.become .shelf).withRound _).withApply _))
  rw [setDraw_charger] at pre bulk
  exact ⟨rfl, rfl, pre, bulk⟩

theorem shelved_queueOpen {s : State} (h : s.receiving = true) : s.shelved.queueOpen = true := by
  simpa [queueOpen, receiving, strapped, shelved_station, shelved_start] using h

/-! ### The final STATE -/

theorem queueFinal_round (s : State) :
    s.queueFinal.round = { s.round with composed := some s.composeFinal, held := s.queueFinal.round.held } := by
  simp only [queueFinal]
  split
  · rfl
  · rw [handState_eq]; rfl

theorem queueFinal_flows {s : State} (flows : s.line.stuck = false) :
    s.queueFinal = (s.recordComposed s.composeFinal).handState ⟨s.composeFinal, true⟩ := by
  simp [queueFinal, flows]

/-- Held while the waiting one is in transmission (R18). -/
theorem queueFinal_held {s : State} (open_ : s.queueOpen = true) (flows : s.line.stuck = false)
    (sending : s.line.sending = some .state) (state : s.line.state ≠ none) :
    s.queueFinal = { s with
      round := { s.round with composed := some s.composeFinal, held := some ⟨s.composeFinal, true⟩ } } := by
  rw [queueFinal_flows flows]
  exact handState_held (s := s.recordComposed s.composeFinal) _ open_ sending state

/-- Otherwise it waits in place of the waiting STATE, with its seq, or joins a queue with room (R18, R140). -/
theorem queueFinal_waits {s : State} (open_ : s.queueOpen = true) (flows : s.line.stuck = false)
    (sending : s.line.sending ≠ some .state) (room : s.line.state ≠ none ∨ s.line.waiting < 4) :
    s.queueFinal = { s with
      round := { s.round with composed := some s.composeFinal }
      line := { s.line with state := some ⟨⟨{ s.composeFinal with
        seq := (s.line.state.map fun q => q.post.contents.seq).getD s.round.seq }, true⟩, 0⟩ } } := by
  rw [queueFinal_flows flows]
  cases state : s.line.state with
  | none => exact handState_room (s := s.recordComposed s.composeFinal) _ open_ state (room.resolve_left (not_not.mpr state))
  | some q => exact handState_waiting (s := s.recordComposed s.composeFinal) _ open_ sending state

/-- On a stuck line it fails at once (R142). -/
theorem queueFinal_stuck {s : State} (stuck : s.line.stuck = true) :
    s.queueFinal = { s with round := { s.round with composed := some s.composeFinal } } := by
  simp [queueFinal, recordComposed, stuck, withRound]

/-! ### The end of an event in SHELF -/

theorem settleShelf_round_held (vIn : Nat) (s : State) :
    (s.settleShelf vIn).round = { s.round with held := (s.settleShelf vIn).round.held } := by
  rcases s.settleShelf_cases vIn with ⟨-, -, -, e⟩ | e <;> rw [e]
  rfl

theorem settleShelf_apply_rewrite (vIn : Nat) (s : State) :
    (s.settleShelf vIn).apply = { s.apply with rewritePending := (s.settleShelf vIn).apply.rewritePending } := by
  rcases s.settleShelf_cases vIn with ⟨-, -, -, e⟩ | e <;> rw [e]
  rfl

/-- The part after a SHELF order taken: what its entry has left, and the queue's own effect apart. -/
def shelfEntered (vIn : Nat) (s : State) : State := s.enterShelf.settleShelf vIn

theorem shelfEntered_round (vIn : Nat) (s : State) :
    (s.shelfEntered vIn).round = { s.round with
      inFlight := false, earlyRequest := false, timer := none, composed := some s.shelved.composeFinal
      held := (s.shelfEntered vIn).round.held } := by
  rw [shelfEntered, settleShelf_round_held, enterShelf_eq, queueFinal_round, shelved_round]

theorem shelfEntered_apply (vIn : Nat) (s : State) :
    (s.shelfEntered vIn).apply = { s.unloaded.apply with rewritePending := (s.shelfEntered vIn).apply.rewritePending } := by
  rw [shelfEntered, settleShelf_apply_rewrite, enterShelf_eq, queueFinal_apply, shelved_apply]

theorem shelfEntered_charger (vIn : Nat) (s : State) : (s.shelfEntered vIn).charger = s.shelved.charger := by
  simp [shelfEntered, enterShelf_eq]

theorem shelfEntered_hinge (vIn : Nat) (s : State) : (s.shelfEntered vIn).hinge = s.shelved.hinge := by
  simp [shelfEntered, enterShelf_eq]

theorem shelfEntered_port (vIn : Nat) (s : State) : (s.shelfEntered vIn).port.port = s.shelved.port.port := by
  rw [shelfEntered, settleShelf_port, enterShelf_eq, queueFinal_port]

theorem shelfEntered_state (vIn : Nat) (s : State) : (s.shelfEntered vIn).station.state = .shelf := by
  rw [shelfEntered, settleShelf_state, enterShelf_eq, queueFinal_station, shelved_station]

end State
end Sys2Proof.Machine

open Sys2Proof Sys2Proof.Machine

/-- Settles O24: the entry is the same in every case, and the queue alone decides what becomes of the final STATE. -/
theorem shelfOrderEnters : Obligations.ShelfOrderEnters := by
  intro vIn s serving on
  have off : s.station.off = false := ((State.receiving_iff s).mp on).2
  have next : exec (.shelfOrder vIn) s = .next (s.shelfEntered vIn) := by
    have : s.serving = true := by simpa [State.serving] using serving
    simp [exec, execShelfOrder, State.shelfOrder, this, State.shelfEntered]
  obtain ⟨phase, stay, pre, bulk⟩ := s.shelved_charger
  have stays (h : s.enterShelf.finalWaiting = true) : s.shelfEntered vIn = s.enterShelf :=
    State.settleShelf_waiting vIn fun _ => h
  refine ⟨_, s.shelved.composeFinal, next, by rw [State.shelfEntered_round], State.shelfEntered_state vIn s,
    by rw [State.shelfEntered_round], by rw [State.shelfEntered_round], by rw [State.shelfEntered_round], ?_, ?_, ?_, ?_, ?_,
    by rw [State.shelfEntered_charger]; exact phase, by rw [State.shelfEntered_charger]; exact stay,
    by rw [State.shelfEntered_charger]; exact pre, by rw [State.shelfEntered_charger]; exact bulk,
    by rw [State.shelfEntered_port]; exact s.shelved_port, by rw [State.shelfEntered_hinge]; exact s.shelved_barring, rfl, rfl,
    rfl, phase, by rw [State.shelfEntered_port]; rfl, by rw [State.shelfEntered_hinge]; rfl, ?_, ?_, ?_, ?_, ?_, ?_, ?_, ?_, ?_,
    ?_, ?_, ?_, ?_, ?_⟩
  · rw [State.shelfEntered_apply, State.unloaded_apply]; rfl
  · rw [State.shelfEntered_apply, State.unloaded_apply]
  · rw [State.shelfEntered_apply, State.unloaded_apply]
  · rw [State.shelfEntered_apply, State.unloaded_apply]
  · rw [State.shelfEntered_apply, State.unloaded_apply]
  · simp [State.composeFinal, State.shelved, State.unloaded, State.become]
  · simp [State.composeFinal, State.shelved_round]
  · intro d some
    simp [State.composeFinal, State.shelved_round, some]
  · intro none
    simp [State.composeFinal, State.shelved_round, none, Marks.noMarks]
  · intro flows sending state
    have e := State.queueFinal_held (State.shelved_queueOpen on) (by rwa [State.shelved_line]) (by rwa [State.shelved_line])
      (by rwa [State.shelved_line])
    rw [stays ((State.finalWaiting_iff _).mpr (.inr ⟨_, by rw [State.enterShelf_eq, e], rfl⟩)), State.enterShelf_eq, e]
    simp only [State.shelved_line, State.shelved_station, off]
    exact ⟨trivial, trivial, trivial, trivial⟩
  · intro flows sending room
    have e := State.queueFinal_waits (State.shelved_queueOpen on) (by rwa [State.shelved_line]) (by rwa [State.shelved_line])
      (by rwa [State.shelved_line])
    rw [stays ((State.finalWaiting_iff _).mpr (.inl ⟨_, by rw [State.enterShelf_eq, e], rfl⟩)), State.enterShelf_eq, e]
    simp only [State.shelved_line, State.shelved_station, State.shelved_fault, State.shelved_round, off]
    exact ⟨trivial, trivial, trivial, trivial⟩
  · intro stuck held fresh
    have e := State.queueFinal_stuck (s := s.shelved) (by rwa [State.shelved_line])
    have gone : s.enterShelf.finalWaiting = false := by
      rw [State.enterShelf_eq, e]
      simp only [State.finalWaiting, State.shelved_line, State.shelved_round, held, Bool.or_false]
      cases state : s.line.state with
      | none => rfl
      | some q => exact fresh q state
    have switched : s.shelfEntered vIn = s.enterShelf.switchOff vIn :=
      State.settleShelf_off vIn (by rw [State.enterShelf_eq, State.queueFinal_station, State.shelved_station])
        (by rw [State.enterShelf_eq, State.queueFinal_station, State.shelved_station]; exact off) gone
    rw [switched]
    exact ⟨rfl, rfl, rfl, rfl, rfl, rfl⟩
  all_goals simp [State.shelfEntered]
end

section
/-!
SUPPORT. What the steps of a completed sweep leave, up to the kinds raised (R5 steps 3 to 5).
-/

namespace Sys2Proof.Machine

/-! ### The queue once ALERT posts are handed to it -/

/-- `l'` is `l` once ALERT posts have been handed to it, and is `l` itself where none has joined (R140). -/
structure LineController.Alerted (l l' : LineController) : Prop where
  sending : l'.sending = l.sending
  alerts : ∃ es, l'.alerts = l.alerts ++ es ∧ (es = [] → l' = l)

theorem LineController.Alerted.refl (l : LineController) : l.Alerted l := ⟨rfl, [], by simp⟩

theorem LineController.Alerted.trans {l m n : LineController} (h : l.Alerted m) (k : m.Alerted n) : l.Alerted n := by
  obtain ⟨hs, es, he, hid⟩ := h
  obtain ⟨ks, fs, ke, kid⟩ := k
  refine ⟨ks.trans hs, es ++ fs, by rw [ke, he, List.append_assoc], fun none => ?_⟩
  obtain ⟨rfl, rfl⟩ := List.append_eq_nil_iff.mp none
  rw [kid rfl, hid rfl]

/-- A line with as many ALERT posts as before is the line before. -/
theorem LineController.Alerted.eq_of_alerts {l l' : LineController} (h : l.Alerted l') (same : l'.alerts = l.alerts) :
    l' = l := by
  obtain ⟨-, es, he, hid⟩ := h
  exact hid (by simpa [he] using same)

theorem LineController.takeAlert_alerted (a : AlertContents) (l : LineController) : l.Alerted (l.takeAlert a).1 := by
  simp only [takeAlert]
  split
  · exact ⟨rfl, [_], rfl, nofun⟩
  · split
    · rename_i h
      rw [(l.dropReply_some _ h).1]
      exact ⟨rfl, [_], rfl, nofun⟩
    · split
      · rename_i h
        simp only [dropState] at h
        split at h
        · obtain rfl := Option.some.inj h
          exact ⟨rfl, [_], rfl, nofun⟩
        · cases h
      · exact .refl l

/-! ### The frame -/

namespace State

/-- `t` follows `s` within the completion of a sweep: the setpoints have not risen, the line has taken ALERT posts at most, and
the stages stand as they did but for what R71 and R171 open. -/
structure Follows (s t : State) : Prop where
  round : s.round.inFlight = true → t.round = { s.round with earlyRequest := t.round.earlyRequest }
  barring : t.hinge.barring = s.hinge.barring
  history : t.hinge.history = s.hinge.history
  barred : t.hinge.link = .barred ↔ s.hinge.link = .barred
  draw : t.apply.draw = s.apply.draw
  charge : t.apply.charge = s.apply.charge ∨ t.apply.charge = 0
  link : t.apply.link = s.apply.link ∨ t.apply.link = 0
  posted : t.apply.posted = s.apply.posted
  line : s.line.Alerted t.line
  mute : s.station.state = .mute → t.station.state = .mute ∧ t.line = s.line
  awake : s.station.state ≠ .mute → t.station.state ≠ .mute
  off : t.station.off = s.station.off
  band : t.charger.band = s.charger.band
  ceiling : t.charger.ceilingHolds = s.charger.ceilingHolds
  timeout : t.charger.timeoutHeld = s.charger.timeoutHeld
  allot : t.fault.allot = s.fault.allot

namespace Follows

theorem refl (s : State) : Follows s s :=
  ⟨fun _ => rfl, rfl, rfl, .rfl, rfl, .inl rfl, .inl rfl, rfl, .refl _, fun h => ⟨h, rfl⟩, id, rfl, rfl, rfl, rfl, rfl⟩

theorem trans {s t u : State} (h : Follows s t) (k : Follows t u) : Follows s u where
  round f := by
    have first := h.round f
    have second := k.round (by rw [first]; exact f)
    rw [second, first]
  barring := k.barring.trans h.barring
  history := k.history.trans h.history
  barred := k.barred.trans h.barred
  draw := k.draw.trans h.draw
  charge := k.charge.elim (fun e => h.charge.imp e.trans e.trans) .inr
  link := k.link.elim (fun e => h.link.imp e.trans e.trans) .inr
  posted := k.posted.trans h.posted
  line := h.line.trans k.line
  mute m := by
    obtain ⟨m', e⟩ := h.mute m
    obtain ⟨m'', e'⟩ := k.mute m'
    exact ⟨m'', e'.trans e⟩
  awake a := k.awake (h.awake a)
  off := k.off.trans h.off
  band := k.band.trans h.band
  ceiling := k.ceiling.trans h.ceiling
  timeout := k.timeout.trans h.timeout
  allot := k.allot.trans h.allot

/-- What leaves the setpoints, the station and the charger needs only its round, its stage, its line and its counter seen to. -/
theorem of_kept {s t : State} (apply : t.apply = s.apply) (station : t.station = s.station) (charger : t.charger = s.charger)
    (hinge : ∃ h, t.hinge = { s.hinge with sinceEntry := h, unanswered := t.hinge.unanswered })
    (allot : t.fault.allot = s.fault.allot)
    (line : s.line.Alerted t.line) (mute : s.station.state = .mute → t.line = s.line)
    (round : s.round.inFlight = true → t.round = { s.round with earlyRequest := t.round.earlyRequest }) : Follows s t := by
  obtain ⟨_, hinge⟩ := hinge
  exact ⟨round, by rw [hinge], by rw [hinge], by rw [hinge], by rw [apply], .inl (by rw [apply]), .inl (by rw [apply]),
    by rw [apply], line, fun m => ⟨station ▸ m, mute m⟩, fun a => station ▸ a, by rw [station], by rw [charger],
    by rw [charger], by rw [charger], allot⟩

end Follows

/-- A charge handed to the charger leaves its band, its held expiry and its ceiling condition (R120). -/
theorem setCharge_charger (c : Nat) (s : State) : (s.setCharge c).charger.band = s.charger.band ∧
    (s.setCharge c).charger.timeoutHeld = s.charger.timeoutHeld ∧
      (s.setCharge c).charger.ceilingHolds = s.charger.ceilingHolds := by
  simp only [setCharge]
  split
  · exact ⟨rfl, rfl, rfl⟩
  · obtain ⟨-, -, band, timeout, -, ceiling, -⟩ := s.charger.hand_setpoint s.station.state s.round.channels.vCell.value c
      ((s.withApply { s.apply with charge := c }).chargeLimitOf c)
    exact ⟨band, timeout, ceiling⟩

theorem handAlert_alerted (a : AlertContents) (s : State) : s.line.Alerted (s.handAlert a).line := by
  cases open_ : s.queueOpen
  · rw [handAlert_closed a s open_]; exact .refl _
  · rw [(handAlert_line open_ a).1]; exact s.line.takeAlert_alerted a

theorem logKind_alerted (k : Kind) (s : State) : s.line.Alerted (s.logKind k).line := by
  have alerted (f : FaultUnit) (a : AlertContents) : s.line.Alerted ((s.withFault f).handAlert a).line :=
    handAlert_alerted a (s.withFault f)
  simp only [logKind]
  split
  · exact .refl _
  · split
    · exact .refl _
    · exact alerted _ _

/-- In MUTE no ALERT joins the queue (R137). -/
theorem logKind_mute {k : Kind} {s : State} (mute : s.station.state = .mute) : (s.logKind k).line = s.line := by
  simp only [logKind]
  split
  · rfl
  · split
    · rfl
    · rw [handAlert_closed _ _ (by simp [queueOpen, mute])]; rfl

theorem logKind_follows (k : Kind) (s : State) : Follows s (s.logKind k) :=
  .of_kept (by simp) (by simp) (by simp) ⟨s.hinge.sinceEntry, by simp⟩ (logKind_allot k s) (logKind_alerted k s) logKind_mute
    (fun _ => by simp)

theorem requestSweep_follows (s : State) : Follows s s.requestSweep := by
  refine .of_kept (by simp) (by simp) (by simp) ⟨_, by rw [requestSweep_hinge]⟩ (by simp) (by simpa using .refl _) (by simp)
    fun f => ?_
  rcases s.requestSweep_cases with ⟨-, e⟩ | ⟨-, -, -, e⟩ | ⟨-, -, no, -⟩
  · rw [e]
  · rw [e]
  · exact absurd (f.symm.trans no) (by simp)

theorem requestSweepIf_follows (b : Bool) (s : State) : Follows s (s.requestSweepIf b) := by
  cases b
  exacts [.refl s, requestSweep_follows s]

/-- Neither port nor discharge switch is among what follows. -/
theorem withPort_follows (p : InputPort) (s : State) : Follows s (s.withPort p) :=
  .of_kept rfl rfl rfl ⟨_, rfl⟩ rfl (.refl _) (fun _ => rfl) (fun _ => rfl)

theorem abortProbe_follows (s : State) : Follows s (s.withPort s.port.abortProbe) := withPort_follows _ s

theorem dischargeOpened_follows (s : State) : Follows s (s.withFault { s.fault with dischargeClosed := false }) :=
  .of_kept rfl rfl rfl ⟨_, rfl⟩ rfl (.refl _) (fun _ => rfl) (fun _ => rfl)

theorem setCharge_zero_follows (s : State) : Follows s (s.setCharge 0) := by
  obtain ⟨band, timeout, ceiling⟩ := s.setCharge_charger 0
  have apply : (s.setCharge 0).apply = { s.apply with charge := 0, chargeMa := (s.setCharge 0).apply.chargeMa } :=
    congrArg State.apply (setCharge_eq 0 s)
  exact ⟨fun _ => by simp, by simp, by simp, by simp, by rw [apply], .inr (by simp), .inl (by rw [apply]), by rw [apply],
    by simpa using .refl _, fun m => by simpa using m, fun a => by simpa using a, by simp, band, ceiling, timeout, by simp⟩

theorem setLink_zero_follows (s : State) : Follows s (s.setLink 0) :=
  ⟨fun _ => by simp, setLink_barring 0 s, setLink_history 0 s, setLink_barred_iff 0 s, by rw [setLink_apply],
    .inl (by rw [setLink_apply]), .inr (by simp), by rw [setLink_apply], by simpa using .refl _, fun m => by simpa using m,
    fun a => by simpa using a, by simp, by simp, by simp, by simp, by simp⟩

theorem enterHoldOff_follows (s : State) : Follows s (s.withCharger s.charger.enterHoldOff) :=
  ⟨fun _ => rfl, rfl, rfl, .rfl, rfl, .inl rfl, .inl rfl, rfl, .refl _, fun m => ⟨m, rfl⟩, id, rfl, rfl, rfl, rfl, rfl⟩

theorem becomeLatched_follows {s : State} (h : s.station.state ≠ .mute) : Follows s (s.become .latched) :=
  ⟨fun _ => rfl, rfl, rfl, .rfl, rfl, .inl rfl, .inl rfl, rfl, .refl _, fun m => absurd m h, fun _ => nofun, rfl, rfl, rfl,
    rfl, rfl⟩

theorem enterLatched_follows {s : State} (h : s.station.state ≠ .mute) : Follows s s.enterLatched := by
  have stages := ((dischargeOpened_follows s).trans (setCharge_zero_follows _)).trans (setLink_zero_follows _)
  have rest := (stages.trans (enterHoldOff_follows _)).trans (abortProbe_follows _)
  exact ((rest.trans (becomeLatched_follows (rest.awake h))).trans (requestSweepIf_follows _ _)).trans (requestSweep_follows _)

theorem haltingEffect_follows (s : State) : Follows s s.haltingEffect := by
  simp only [haltingEffect]
  split
  case h_1 state => exact enterLatched_follows (by rw [state]; exact nofun)
  case h_2 state => exact enterLatched_follows (by rw [state]; exact nofun)
  case h_3 => exact .refl s
  case h_4 =>
    exact ⟨fun _ => rfl, rfl, rfl, .rfl, rfl, .inl rfl, .inl rfl, rfl, .refl _, fun m => ⟨m, rfl⟩, id, rfl, rfl, rfl, rfl, rfl⟩
  case h_5 =>
    have uncharged := (dischargeOpened_follows s).trans (setCharge_zero_follows _)
    split
    exacts [uncharged, uncharged.trans (enterHoldOff_follows _)]
  case h_6 => exact dischargeOpened_follows s

theorem raise_follows (k : Kind) (s : State) : Follows s (s.raise k) := by
  simp only [raise]
  split
  exacts [(logKind_follows k s).trans (haltingEffect_follows _), logKind_follows k s]

theorem raiseAll_follows (ks : List Kind) (s : State) : Follows s (s.raiseAll ks) := by
  induction ks generalizing s with
  | nil => exact .refl s
  | cons k ks ih => exact (raise_follows k s).trans (ih _)

theorem sweepPort_follows (s : State) : Follows s s.sweepPort :=
  (withPort_follows _ s).trans (requestSweepIf_follows _ _)

/-- The unanswered check writes its count alone (R85). -/
theorem hingeCheck_eq (c : Channel) (h : HingeStage) :
    (h.check c).1 = { h with unanswered := (h.check c).1.unanswered } := by
  simp only [HingeStage.check]
  repeat' split
  all_goals rfl

theorem sweepHinge_follows (s : State) : Follows s s.sweepHinge := by
  have checked : Follows s (s.withHinge (s.hinge.check s.round.channels.iHinge).1) :=
    .of_kept rfl rfl rfl ⟨s.hinge.sinceEntry, hingeCheck_eq _ _⟩ rfl (.refl _) (fun _ => rfl) (fun _ => rfl)
  simp only [sweepHinge]
  split
  · have counted (u : State) : Follows u ((u.count .linkUnanswered).withApply
        { (u.count .linkUnanswered).apply with unansweredHold := true }) :=
      ⟨fun _ => rfl, rfl, rfl, .rfl, rfl, .inl rfl, .inl rfl, rfl, .refl _, fun m => ⟨m, rfl⟩, id, rfl, rfl, rfl, rfl, rfl⟩
    exact (checked.trans (counted _)).trans (setLink_zero_follows _)
  · exact checked

end State
end Sys2Proof.Machine
end

section
/-!
SUPPORT. What the composition at a sweep's completion leaves (R5 steps 6 to 8), and the completed sweep from its cut points.
-/

namespace Sys2Proof.Machine.State

/-! ### The setpoints handed over -/

theorem handAll_apply (s : State) : s.handAll.apply = { s.apply with
    drawMa := s.handAll.apply.drawMa, chargeMa := s.handAll.apply.chargeMa, linkMa := s.handAll.apply.linkMa } := rfl

theorem handAll_port (s : State) : s.handAll.port = { s.port with drawLimit := s.handAll.port.drawLimit } := rfl

theorem handAll_stage (s : State) :
    s.handAll.hinge.barring = s.hinge.barring ∧ s.handAll.hinge.history = s.hinge.history ∧
      (s.handAll.hinge.link = .barred ↔ s.hinge.link = .barred) := by
  obtain ⟨barring, history, -, link⟩ :=
    HingeStage.hand_state s.apply.link (s.handDraw.handCharge.linkLimitOf s.apply.link) s.hinge
  refine ⟨barring, history, ?_⟩
  rw [show s.handAll.hinge.link = _ from link]
  by_cases h : s.hinge.link = .barred
  · simp [h]
  · simp [h, linkStateOf_ne_barred]

theorem handAll_charger (s : State) : s.handAll.charger.band = s.charger.band ∧
    s.handAll.charger.timeoutHeld = s.charger.timeoutHeld ∧ s.handAll.charger.ceilingHolds = s.charger.ceilingHolds := by
  obtain ⟨-, -, band, timeout, -, ceiling, -⟩ := s.charger.hand_setpoint s.station.state s.round.channels.vCell.value
    s.apply.charge (s.handDraw.chargeLimitOf s.apply.charge)
  exact ⟨band, timeout, ceiling⟩

/-! ### The composition -/

section
variable (s : State)

theorem recordedL_round : s.recordedL.round = { s.round with lastL := s.recordedL.round.lastL } := by
  simp only [recordedL, recordL]
  split <;> rfl

theorem runTaken_round : s.runTaken.round = s.recordedL.round := by simp [runTaken]

theorem runTaken_station : s.runTaken.station = s.station := by simp [runTaken, recordedL]

theorem runTaken_fault : s.runTaken.fault = s.fault := by simp [runTaken, recordedL]

theorem runTaken_line : s.runTaken.line = s.line := by simp [runTaken, recordedL]

theorem runTaken_start : s.runTaken.start = s.start := by simp [runTaken, recordedL]

theorem shortfallReported_eq : s.shortfallReported = { s.runTaken with
    line := s.shortfallReported.line, fault := s.shortfallReported.fault } := by
  simp only [shortfallReported, raise_loadShortfall]
  split
  · exact logKind_eq _ _
  · rfl

theorem readyToCompose_round : s.readyToCompose.round = s.recordedL.round := by
  rw [readyToCompose, handAll_round, countIf_round, shortfallReported_eq, runTaken_round]

theorem readyToCompose_station : s.readyToCompose.station = s.station := by
  rw [readyToCompose, handAll_station, countIf_station, shortfallReported_eq, runTaken_station]

theorem readyToCompose_start : s.readyToCompose.start = s.start := by
  rw [readyToCompose, handAll_start, countIf_start, shortfallReported_eq, runTaken_start]

theorem readyToCompose_policy : s.readyToCompose.policy = s.policy := by
  rw [readyToCompose, handAll_policy, countIf_policy, shortfallReported_eq]
  simp [runTaken, recordedL]

/-- The line takes at most the ALERT of LOAD_SHORTFALL. -/
theorem readyToCompose_alerted : s.line.Alerted s.readyToCompose.line := by
  rw [readyToCompose, handAll_line, countIf_line, shortfallReported, raise_loadShortfall, ← runTaken_line]
  split
  exacts [logKind_alerted _ _, .refl _]

theorem readyToCompose_mute (mute : s.station.state = .mute) : s.readyToCompose.line = s.line := by
  rw [readyToCompose, handAll_line, countIf_line, shortfallReported, raise_loadShortfall]
  split
  · rw [logKind_mute (by rwa [runTaken_station]), runTaken_line]
  · exact runTaken_line s

/-- The run replaces the proposal, and the setpoints fall under it (R62 to R64). -/
theorem readyToCompose_apply :
    let a := s.readyToCompose.apply
    let run := s.compositionRun
    a.proposal = run.1.setting ∧ a.code = run.2.code ∧ a.posted = s.apply.posted ∧
      a.draw = min s.apply.draw run.1.setting.g.toNat ∧ a.charge = min s.apply.charge run.1.setting.c.toNat ∧
      a.link = linkUnder s.apply.link run.1.setting.x := by
  obtain ⟨proposal, code, posted, draw, charge, link, -⟩ :=
    replaceProposal_apply s.compositionRun.1.setting s.compositionRun.2.code s.recordedL
  simp only [recordedL, recordL_apply] at posted draw charge link
  rw [readyToCompose, handAll_apply, countIf_apply, shortfallReported_eq]
  exact ⟨proposal, code, posted, draw, charge, link⟩

theorem replaceProposal_stages (r : Setting) (code : Nat) :
    (s.replaceProposal r code).hinge.barring = s.hinge.barring ∧ (s.replaceProposal r code).hinge.history = s.hinge.history ∧
      ((s.replaceProposal r code).hinge.link = .barred ↔ s.hinge.link = .barred) ∧
      (s.replaceProposal r code).port = { s.port with drawLimit := (s.replaceProposal r code).port.drawLimit } := by
  simp only [replaceProposal, setLink_barring, setLink_history, setLink_barred_iff, setLink_port, setCharge_port,
    setCharge_hinge, setDraw_hinge]
  exact ⟨rfl, rfl, .rfl, by rw [setDraw_eq]; rfl⟩

/-- The state that hands its setpoints over differs from the run's in line and fault unit alone. -/
theorem readyToCompose_blocks : ∃ u : State, s.readyToCompose = u.handAll ∧ u.apply = s.runTaken.apply ∧
    u.hinge = s.runTaken.hinge ∧ u.port = s.runTaken.port ∧ u.charger = s.runTaken.charger := by
  refine ⟨_, rfl, ?_⟩
  rw [countIf_apply, countIf_hinge, countIf_port, countIf_charger, shortfallReported_eq]
  exact ⟨rfl, rfl, rfl, rfl⟩

theorem readyToCompose_stages :
    s.readyToCompose.hinge.barring = s.hinge.barring ∧ s.readyToCompose.hinge.history = s.hinge.history ∧
      (s.readyToCompose.hinge.link = .barred ↔ s.hinge.link = .barred) ∧
      s.readyToCompose.port = { s.port with drawLimit := s.readyToCompose.port.drawLimit } := by
  obtain ⟨u, e, -, hinge, port, -⟩ := s.readyToCompose_blocks
  obtain ⟨barring, history, barred⟩ := u.handAll_stage
  obtain ⟨barring', history', barred', port'⟩ :=
    s.recordedL.replaceProposal_stages s.compositionRun.1.setting s.compositionRun.2.code
  simp only [recordedL, recordL_hinge, recordL_port] at barring' history' barred' port'
  rw [e, barring, history, barred, handAll_port, hinge, port]
  exact ⟨barring', history', barred', by rw [runTaken, accrue_port, recordedL, port']⟩

theorem readyToCompose_charger : s.readyToCompose.charger.band = s.charger.band ∧
    s.readyToCompose.charger.timeoutHeld = s.charger.timeoutHeld ∧
      s.readyToCompose.charger.ceilingHolds = s.charger.ceilingHolds := by
  obtain ⟨u, e, -, -, -, charger⟩ := s.readyToCompose_blocks
  obtain ⟨band, timeout, ceiling⟩ := u.handAll_charger
  rw [e, band, timeout, ceiling, charger]
  simp only [runTaken, accrue_charger, replaceProposal, setLink_charger]
  obtain ⟨band', timeout', ceiling'⟩ := setCharge_charger _ (setDraw _ (s.recordedL.withApply _))
  rw [band', timeout', ceiling']
  simp [recordedL]

end

/-! ### The completed sweep -/

/-- The contents that a completed sweep posts. -/
def sweptContents (r : Readings) (s : State) : StateContents :=
  (s.sweptRaised r).contentsComposed (s.sweptRaised r).charger.phase

section
variable (r : Readings) (s : State)

theorem completeSweep_round : (s.completeSweep r).round = { (s.sweptRaised r).recordedL.round with
    composed := some (s.sweptContents r), inFlight := false, earlyRequest := false
    held := (s.completeSweep r).round.held } := by
  rw [completeSweep_eq, sweepCompose_eq, endSweep, handState_eq]
  simp only [recordComposed, withRound_round, readyToCompose_round]
  rfl

theorem completeSweep_blocks :
    (s.completeSweep r).station = (s.sweptRaised r).readyToCompose.station ∧
    (s.completeSweep r).apply = (s.sweptRaised r).readyToCompose.apply ∧
    (s.completeSweep r).hinge = (s.sweptRaised r).readyToCompose.hinge ∧
    (s.completeSweep r).port = (s.sweptRaised r).readyToCompose.port ∧
    (s.completeSweep r).charger = (s.sweptRaised r).readyToCompose.charger := by
  rw [completeSweep_eq, sweepCompose_eq, endSweep_station, endSweep_apply, endSweep_hinge, endSweep_port, endSweep_charger,
    handState_station, handState_apply, handState_hinge, handState_port, handState_charger, recordComposed_station,
    recordComposed_apply, recordComposed_hinge, recordComposed_port, recordComposed_charger]
  exact ⟨rfl, rfl, rfl, rfl, rfl⟩

/-- Steps 3 to 5 of a sweep in flight follow its first two. -/
theorem sweptRaised_follows : Follows (s.swept r) (s.sweptRaised r) :=
  ((sweepPort_follows _).trans (sweepHinge_follows _)).trans (raiseAll_follows _ _)

theorem swept_round : (s.swept r).round = { s.round with
    channels := s.round.channels.judge s.start.straps.inputFitted r } := by
  simp only [swept, sweepCharger_fst_round, sweepGauge_round]
  rfl

variable {r s}

/-- The round unit after a sweep in flight completes: channels, last unsuspect L and composition are its own (R6, R10, R16). -/
theorem completeSweep_round_eq (flight : s.round.inFlight = true) : (s.completeSweep r).round = { s.round with
    channels := s.round.channels.judge s.start.straps.inputFitted r, lastL := (s.sweptRaised r).recordedL.round.lastL
    composed := some (s.sweptContents r), inFlight := false, earlyRequest := false
    held := (s.completeSweep r).round.held } := by
  have raised := (sweptRaised_follows r s).round (by rw [swept_round]; exact flight)
  rw [completeSweep_round, recordedL_round, raised, swept_round]

theorem exec_sweepComplete (flight : s.round.inFlight = true) : exec (.sweepComplete r) s = .next (s.completeSweep r) := by
  simp [exec, execSweepComplete, flight]

end

end Sys2Proof.Machine.State

open Sys2Proof Sys2Proof.Machine

/-- Settles O13: no step after the first touches the channels. -/
theorem sweepJudgesChannels : Obligations.SweepJudgesChannels := by
  intro r s flight
  refine ⟨_, State.exec_sweepComplete flight, ?_⟩
  rw [State.completeSweep_round_eq flight]
  intro judged a b
  have judge (lo hi x : Int) (c : Channel) : judged lo hi x c (c.judge lo hi x) := by
    simp only [judged, Channel.judge]
    split <;> rfl
  refine ⟨judge _ _ _ _, judge _ _ _ _, judge _ _ _ _, judge _ _ _ _, judge _ _ _ _, judge _ _ _ _, judge _ _ _ _, judge _ _ _ _,
    fun fitted => ?_, fun bare => ?_⟩
  · simp only [b, Channels.judge, fitted, if_true]
    exact ⟨judge _ _ _ _, judge _ _ _ _⟩
  · simp [b, a, Channels.judge, bare]
end

section
/-!
SUPPORT. What a completed sweep leaves of line and setpoints, and the STATE it composes.
-/

namespace Sys2Proof.Machine.State

/-! ### Line and gauge -/

/-- An own STATE handed to the queue leaves transmission and ALERT posts (R18, R140). -/
theorem handState_frame (p : OwnState) (s : State) :
    (s.handState p).line.sending = s.line.sending ∧ (s.handState p).line.alerts = s.line.alerts := by
  obtain ⟨-, sending, alerts, -⟩ := LineController.takeState_frame p s.line
  simp only [handState, countIf]
  split
  · split
    · exact ⟨rfl, rfl⟩
    · split <;> exact ⟨sending, alerts⟩
  · exact ⟨rfl, rfl⟩

/-- A proposal may lower an applied link or open it, never raise it (R64). -/
theorem linkUnder_falls (link x : Int) : (linkUnder link x).natAbs ≤ link.natAbs ∧ 0 ≤ linkUnder link x * link := by
  simp only [linkUnder]
  split
  · rename_i h
    exact ⟨by omega, mul_nonneg (by omega) (by omega)⟩
  · split
    · rename_i h
      exact ⟨by omega, mul_nonneg_of_nonpos_of_nonpos (by omega) (by omega)⟩
    · simp

theorem recordComposed_queueOpen (c : StateContents) (s : State) : (s.recordComposed c).queueOpen = s.queueOpen := rfl

section
variable (r : Readings) (s : State)

/-- The measurement is dated where the line stood idle (R29). -/
theorem swept_previous : (s.swept r).gauge.previous = some (s.clock - r.lag) := by
  have measured : ((s.takeReadings r).sweepGauge (s.clock - r.lag)).gauge.previous = some (s.clock - r.lag) := by
    simp [sweepGauge, Gauge.sweep]
  simp only [swept, sweepCharger]
  split
  · simp only [gaugeFull, countIf_gauge, withGauge_gauge, Gauge.full, withCharger_gauge]
    exact measured
  · exact measured

theorem completeSweep_line : (s.completeSweep r).line =
    (((s.sweptRaised r).readyToCompose.recordComposed (s.sweptContents r)).handState ⟨s.sweptContents r, false⟩).line := by
  rw [completeSweep_eq, sweepCompose_eq, endSweep_line]
  rfl

theorem swept_line : (s.swept r).line = s.line := by simp [swept]

theorem swept_apply : (s.swept r).apply = s.apply := by simp [swept]

theorem swept_hinge : (s.swept r).hinge = s.hinge := by simp [swept]

theorem sweptRaised_policy : (s.sweptRaised r).policy = s.policy := by simp [sweptRaised, sweptStages, swept]

theorem sweptRaised_start : (s.sweptRaised r).start = s.start := by simp [sweptRaised, sweptStages, swept]

theorem sweptRaised_gauge : (s.sweptRaised r).gauge = (s.swept r).gauge := by simp [sweptRaised, sweptStages]

/-- What is composed, field by field (R16). -/
theorem sweptContents_eq :
    let y := s.sweptRaised r
    let z := y.readyToCompose
    s.sweptContents r =
      { seq := z.round.seq, station := z.station.state, phase := y.charger.phase, port := z.port.port, fold := z.round.fold
        link := z.hinge.link, balance := z.policy.balance, code := y.compositionRun.2.code, marks := y.deriveMarks
        figures := y.deriveFigures, setting := y.compositionRun.1.setting } := rfl

/-- The line before the composed STATE is handed to it has taken ALERT posts at most. -/
theorem readyToCompose_line_alerted : s.line.Alerted (s.sweptRaised r).readyToCompose.line := by
  have raised := (sweptRaised_follows r s).line
  rw [swept_line] at raised
  exact raised.trans (readyToCompose_alerted _)

/-- In MUTE it is untouched (R137). -/
theorem readyToCompose_line_mute (mute : s.station.state = .mute) : (s.sweptRaised r).readyToCompose.line = s.line := by
  obtain ⟨still, line⟩ := (sweptRaised_follows r s).mute (by rwa [swept_station])
  rw [readyToCompose_mute _ still, line, swept_line]

theorem readyToCompose_queueOpen (awake : s.station.state ≠ .mute) (on : s.receiving = true) :
    (s.sweptRaised r).readyToCompose.queueOpen = true := by
  obtain ⟨strap, off⟩ := (receiving_iff s).mp on
  refine (queueOpen_iff _).mpr ⟨(receiving_iff _).mpr ⟨?_, ?_⟩, ?_⟩
  · simp only [strapped, readyToCompose_start]
    rwa [sweptRaised_start]
  · rw [readyToCompose_station, (sweptRaised_follows r s).off, swept_station]; exact off
  · rw [readyToCompose_station]; exact (sweptRaised_follows r s).awake (by rwa [swept_station])

/-- The setpoints a completed sweep leaves have fallen or stayed (R63, R64, R71, R171). -/
theorem completeSweep_falls :
    let a := (s.completeSweep r).apply
    a.draw ≤ s.apply.draw ∧ a.charge ≤ s.apply.charge ∧ a.link.natAbs ≤ s.apply.link.natAbs ∧ 0 ≤ a.link * s.apply.link := by
  obtain ⟨-, apply, -⟩ := completeSweep_blocks r s
  have f := sweptRaised_follows r s
  have draw := f.draw
  have charge := f.charge
  have link := f.link
  obtain ⟨-, -, -, drawUnder, chargeUnder, linkUnder'⟩ := (s.sweptRaised r).readyToCompose_apply
  simp only [swept_apply] at draw charge link
  simp only [apply, drawUnder, chargeUnder, linkUnder', draw]
  refine ⟨Nat.min_le_left _ _, ?_, ?_⟩
  · rcases charge with e | e <;> rw [e] <;> omega
  · rcases link with e | e <;> rw [e]
    · exact linkUnder_falls _ _
    · simp [linkUnder]

end

end Sys2Proof.Machine.State

open Sys2Proof Sys2Proof.Machine

/-- Settles O14: what is composed is read off the state that stands at composition, and from there only the queue changes. -/
theorem sweepComposes : Obligations.SweepComposes := by
  intro r s flight
  have round := State.completeSweep_round_eq (r := r) flight
  obtain ⟨station, apply, hinge, port, -⟩ := State.completeSweep_blocks r s
  obtain ⟨proposal, code, posted, -⟩ := (s.sweptRaised r).readyToCompose_apply
  obtain ⟨barring, history, -⟩ := (s.sweptRaised r).readyToCompose_stages
  have f := State.sweptRaised_follows r s
  obtain ⟨drawFalls, chargeFalls, linkFalls, linkSign⟩ := State.completeSweep_falls r s
  have composed : (s.sweptRaised r).readyToCompose.round = { s.round with
      channels := (s.sweptRaised r).readyToCompose.round.channels, lastL := (s.sweptRaised r).recordedL.round.lastL
      earlyRequest := (s.sweptRaised r).readyToCompose.round.earlyRequest } := by
    rw [State.readyToCompose_round, State.recordedL_round, f.round (by rw [State.swept_round]; exact flight), State.swept_round]
  have c := State.sweptContents_eq r s
  refine ⟨_, s.sweptContents r, State.exec_sweepComplete flight, by rw [round], by rw [c, composed], by rw [c, station],
    by rw [c, port], by rw [c, composed], by rw [c, hinge], ?_, by rw [c, apply, proposal], by rw [c, apply, code], ?_,
    by rw [round], by rw [round], drawFalls, chargeFalls, linkFalls, linkSign, ?_, by rw [round], by rw [round], by rw [round],
    by rw [round], by rw [round], by rw [round], by rw [apply, posted, f.posted, State.swept_apply], ?_, ?_, ?_, ?_, ?_,
    by rw [hinge, barring, f.barring, State.swept_hinge], by rw [hinge, history, f.history, State.swept_hinge], ?_,
    fun mute => ?_, fun awake on idle alerts => ?_⟩
  · rw [c, State.readyToCompose_policy, State.sweptRaised_policy]
  · rw [c, State.completeSweep_gauge, ← State.sweptRaised_gauge]; rfl
  · rw [State.completeSweep_gauge, State.swept_previous]
  iterate 5 simp [State.completeSweep_eq, State.sweptRaised, State.sweptStages, State.swept]
  · rw [State.completeSweep_line, (State.handState_frame _ _).1]
    exact (State.readyToCompose_line_alerted r s).sending
  · obtain ⟨still, -⟩ := f.mute (by rwa [State.swept_station])
    refine ⟨by rw [station, State.readyToCompose_station]; exact still, ?_⟩
    rw [State.completeSweep_line, State.handState_closed]
    · rw [State.recordComposed_line]; exact State.readyToCompose_line_mute r s mute
    · simpa [State.queueOpen, State.readyToCompose_station] using fun _ => still
  · rw [State.completeSweep_line, (State.handState_frame _ _).2, State.recordComposed_line] at alerts
    have line := (State.readyToCompose_line_alerted r s).eq_of_alerts alerts
    have open_ := State.readyToCompose_queueOpen r s awake on
    rw [← State.recordComposed_queueOpen (s.sweptContents r)] at open_
    rw [← State.recordComposed_line (s.sweptContents r)] at line
    rw [State.completeSweep_line]
    generalize (s.sweptRaised r).readyToCompose.recordComposed (s.sweptContents r) = u at open_ line
    refine ⟨fun q waiting => ?_, fun none room => ?_⟩
    · rw [State.handState_waiting (q := q) _ open_ (by rw [line, idle]; exact nofun) (by rw [line, waiting])]
      rfl
    · rw [State.handState_room _ open_ (by rw [line, none]) (by rwa [line])]
end

section
/-!
SUPPORT. The figures and marks of the STATE composed at a sweep's completion (R7, R9 to R14).
-/

namespace Sys2Proof.Machine

/-! ### The figures -/

theorem Channel.value_of_held {c : Channel} {x : Int} (h : c.held = some x) : c.value = x := by
  rw [value, h, Option.getD_some]

theorem figureS_eq (contract : Option Nat) (p : InputPort) : figureS contract p =
    match p.port, contract with
    | .holding, some k => min k 30000
    | .holding, none => min 30000 (p.probed.getD 0 * p.attachMv.getD 0 / 1000)
    | .probing, _ => min 30000 (p.step.getD 0 * p.attachMv.getD 0 / 1000)
    | _, _ => 0 := by
  cases h : p.port <;> cases contract <;> simp [figureS, h]

/-- The charge factor of a temperature (R115). -/
theorem chargeFactor_bandOf (t2 : Int) : chargeFactor (some (bandOf t2)) =
    if t2 < 0 then 0 else if t2 < 20 then 50 else if t2 < 90 then 100 else if t2 < 110 then 50 else 0 := by
  simp only [bandOf]
  by_cases cold : t2 < -40
  · rw [if_pos cold, if_pos (by omega)]; rfl
  · rw [if_neg cold]
    repeat' split
    all_goals rfl

/-- H (R14). -/
theorem figureH_eq (hingeClass : Nat) (c : Channel) (fold : FoldState) (link : LinkState) {t2 : Int} (held : c.held = some t2) :
    (figureH hingeClass c fold link : Int) =
      let base : Int :=
        if c.plausible = false then (hingeClass : Int) / 4
        else if t2 ≤ 90 then hingeClass
        else if t2 < 120 then hingeClass * (120 - t2) / 30
        else 0
      if link = .barred then 0 else if fold = .moving then base / 2 else base := by
  have value : c.value = t2 := Channel.value_of_held held
  have derated (h : t2 < 120) : (((hingeClass : Int) * (120 - t2) / 30).toNat : Int) = hingeClass * (120 - t2) / 30 :=
    Int.toNat_of_nonneg (Int.ediv_nonneg (mul_nonneg (by omega) (by omega)) (by omega))
  have base : ((if !c.plausible then hingeClass / 4 else if t2 ≤ 90 then hingeClass
        else if t2 < 120 then (hingeClass * (120 - t2) / 30).toNat else 0 : Nat) : Int) =
      if c.plausible = false then (hingeClass : Int) / 4 else if t2 ≤ 90 then hingeClass
        else if t2 < 120 then hingeClass * (120 - t2) / 30 else 0 := by
    cases c.plausible
    · simp
    · by_cases warm : t2 ≤ 90
      · simp [warm]
      · by_cases hot : t2 < 120
        · simpa [warm, hot] using derated hot
        · simp [warm, hot]
  simp only [figureH, value, ← base]
  by_cases barred : link = .barred
  · simp [barred]
  · by_cases moving : fold = .moving
    · simp only [if_neg barred, if_pos moving, Int.natCast_ediv, Nat.cast_ofNat]
    · simp only [if_neg barred, if_neg moving]

/-! ### The charger's part -/

theorem Charger.transition_band (p : Profile) (st : StationState) (ok : Bool) (i v : Int) (c : Charger) :
    (c.transition p st ok i v).band = c.band := by
  simp only [transition, leaveHoldOff, enterHoldOff]
  repeat' split
  all_goals rfl

theorem Charger.countInterval_band (ok : Bool) (i : Int) (t : Nat) (c : Charger) :
    (c.countInterval ok i t).band = c.band := by
  simp only [countInterval]
  repeat' split
  all_goals rfl

/-- A sweep leaves the charger in the band of its temperature (R118). -/
theorem Charger.sweep_band (p : Profile) (st : StationState) (ceiling q : Nat) (ok : Bool) (i v t2 : Int) (t : Nat)
    (c : Charger) : (c.sweep p st ceiling q ok i v t2 t).1.band = some (bandOf t2) := by
  simp only [sweep]
  split
  · simp only [enterHoldOff, countInterval_band]
  · simp only [transition_band, countInterval_band]

/-- Cmax (R12) of a charger that is not in HOLD_OFF. -/
theorem figureCmax_phase {p : Profile} {st : StationState} {v i : Int} {c : Charger} {f : Nat}
    (factor : chargeFactor c.band = f) :
    (c.phase = .precharge → figureCmax p st v i c = min 20000 (p.ccMa / 10 * f / 100 * v.toNat / 1000)) ∧
    (c.phase = .bulk → figureCmax p st v i c = min 20000 (p.ccMa * f / 100 * v.toNat / 1000)) ∧
    (c.phase = .taper →
      figureCmax p st v i c = min 20000 (max (i.toNat + i.toNat / 10) p.taperMa * v.toNat / 1000)) ∧
    (c.phase = .full → figureCmax p st v i c = 0) := by
  refine ⟨?_, ?_, ?_, ?_⟩
  all_goals
    intro phase
    simp [figureCmax, Charger.offeredPhase, phase, factor, Profile.prechargeMa]

/-- Cmax (R12) of a charger in HOLD_OFF: what it would take, if a setpoint is all that lacks. -/
theorem figureCmax_holdOff {p : Profile} {st : StationState} {v i : Int} {c : Charger} {f : Nat}
    (factor : chargeFactor c.band = f) (phase : c.phase = .holdOff) :
    figureCmax p st v i c =
      if (st = .solo ∨ st = .paired ∨ st = .mute) ∧ c.ceilingHolds = true ∧ c.timeoutHeld = false then
        if v < 3000 then min 20000 (p.ccMa / 10 * f / 100 * v.toNat / 1000)
        else min 20000 (p.ccMa * f / 100 * v.toNat / 1000)
      else 0 := by
  by_cases lacks : (st = .solo ∨ st = .paired ∨ st = .mute) ∧ c.ceilingHolds = true ∧ c.timeoutHeld = false
  · obtain ⟨charges, ceiling, timeout⟩ := lacks
    have station : stationCharges st = true := by rcases charges with rfl | rfl | rfl <;> rfl
    rw [if_pos ⟨charges, ceiling, timeout⟩]
    by_cases zero : f = 0
    · have refused : c.permitted st = false := by simp [Charger.permitted, factor, zero]
      simp [figureCmax, Charger.offeredPhase, phase, refused, zero]
    · have permitted : c.permitted st = true := by
        simp [Charger.permitted, factor, ceiling, timeout, station, Nat.pos_of_ne_zero zero]
      by_cases low : v < 3000
      · simp [figureCmax, Charger.offeredPhase, phase, permitted, prechargeMv, low, factor, Profile.prechargeMa]
      · simp [figureCmax, Charger.offeredPhase, phase, permitted, prechargeMv, low, factor]
  · have refused : c.permitted st = false := by
      simp only [Charger.permitted, Bool.and_eq_false_iff]
      by_contra all
      push Not at all
      obtain ⟨⟨⟨-, ceiling⟩, station⟩, timeout⟩ := all
      refine lacks ⟨?_, by simpa using ceiling, by simpa using timeout⟩
      cases st <;> simp_all [stationCharges]
    simp [figureCmax, Charger.offeredPhase, phase, refused, lacks]

namespace State

section
variable {r : Readings} {s : State}

theorem swept_band : (s.swept r).charger.band =
    some (bandOf (s.round.channels.judge s.start.straps.inputFitted r).tCell.value) := by
  have judged : ((s.takeReadings r).sweepGauge (s.clock - r.lag)).round.channels =
      s.round.channels.judge s.start.straps.inputFitted r := by rw [sweepGauge_round]; rfl
  simp only [swept, sweepCharger]
  split
  · simp only [gaugeFull, countIf_charger, withGauge_charger, withCharger_charger, Charger.sweep_band, judged]
  · simp only [withCharger_charger, Charger.sweep_band, judged]

/-- The channels that the composition reads are those the sweep leaves. -/
theorem sweptRaised_channels (flight : s.round.inFlight = true) :
    (s.sweptRaised r).round.channels = (s.completeSweep r).round.channels := by
  rw [completeSweep_round_eq flight, (sweptRaised_follows r s).round (by rw [swept_round]; exact flight), swept_round]

/-- The charge factor at composition is that of the sweep's cell temperature (R115). -/
theorem sweptRaised_factor (flight : s.round.inFlight = true) {t2 : Int}
    (held : (s.sweptRaised r).round.channels.tCell.held = some t2) : chargeFactor (s.sweptRaised r).charger.band =
      if t2 < 0 then 0 else if t2 < 20 then 50 else if t2 < 90 then 100 else if t2 < 110 then 50 else 0 := by
  rw [sweptRaised_channels flight, completeSweep_round_eq flight] at held
  have value : (s.round.channels.judge s.start.straps.inputFitted r).tCell.value = t2 :=
    Channel.value_of_held held
  rw [(sweptRaised_follows r s).band, swept_band, value, chargeFactor_bandOf]

theorem sweptRaised_fold (flight : s.round.inFlight = true) : (s.sweptRaised r).round.fold = s.round.fold := by
  rw [(sweptRaised_follows r s).round (by rw [swept_round]; exact flight), swept_round]

end

end State
end Sys2Proof.Machine

open Sys2Proof Sys2Proof.Machine

/-- Settles O15: the figures are taken after step 5, and what they read stands until the end. -/
theorem sweepFigures : Obligations.SweepFigures := by
  intro r s flight
  obtain ⟨station, -, hinge, port, charger⟩ := State.completeSweep_blocks r s
  obtain ⟨-, -, barred, port'⟩ := (s.sweptRaised r).readyToCompose_stages
  obtain ⟨-, timeout, ceiling⟩ := (s.sweptRaised r).readyToCompose_charger
  have stands := (s.sweptRaised r).readyToCompose_station
  have contents := State.sweptContents_eq r s
  have policy := State.sweptRaised_policy r s
  have start := State.sweptRaised_start r s
  have fold := State.sweptRaised_fold (r := r) flight
  have channels := State.sweptRaised_channels (r := r) flight
  have factor := fun t2 held => State.sweptRaised_factor (r := r) flight (t2 := t2) held
  refine ⟨_, s.sweptContents r, State.exec_sweepComplete flight, by rw [State.completeSweep_round_eq flight], ?_⟩
  generalize s.sweptRaised r = y at *
  have figures : (s.sweptContents r).figures = y.deriveFigures := by rw [contents]
  have marks : (s.sweptContents r).marks = y.deriveMarks := by rw [contents]
  have phase : (s.sweptContents r).phase = y.charger.phase := by rw [contents]
  have profile : y.profile = s.profile := by simp only [State.profile, start]
  rw [figures, marks, phase, ← policy, ← start, ← fold, ← profile, ← channels, station, port, hinge, charger, stands]
  clear contents figures marks phase profile
  intro ch attach
  refine ⟨?_, fun v i vSys iLoad => ?_, fun v t2 vCell tCell => ?_, fun t2 tHinge => ?_, ?_, fun v i t2 vCell iCell tCell => ?_⟩
  · simp only [attach]
    rw [port']
    exact figureS_eq y.policy.contract y.port
  · have vSys : y.round.channels.vSys.value = v := Channel.value_of_held vSys
    have iLoad : y.round.channels.iLoad.value = i := Channel.value_of_held iLoad
    simp only [State.deriveFigures, figureL, vSys, iLoad]
    norm_cast
  · have vCell : y.round.channels.vCell.value = v := Channel.value_of_held vCell
    have tCell : y.round.channels.tCell.value = t2 := Channel.value_of_held tCell
    simp only [State.deriveFigures, figureDmax, vCell, tCell, Nat.cast_le, Int.toNat_natCast]
  · have derated := figureH_eq y.start.straps.hingeClass y.round.channels.tHinge y.round.fold y.hinge.link tHinge
    intro base
    rw [show (y.deriveFigures.h : Int) = _ from derated]
    by_cases b : y.hinge.link = .barred
    · rw [if_pos b, if_pos (barred.mpr b)]
    · rw [if_neg b, if_neg (mt barred.mp b)]
  · simp only [State.deriveMarks, marksOf]
    rw [port']
  · have vCell : y.round.channels.vCell.value = v := Channel.value_of_held vCell
    have iCell : y.round.channels.iCell.value = i := Channel.value_of_held iCell
    have cmax : y.deriveFigures.cmax = figureCmax y.profile y.station.state v i y.charger := by
      simp only [State.deriveFigures, vCell, iCell]
    intro f gentle full
    rw [cmax, timeout, ceiling]
    obtain ⟨precharge, bulk, taper, none⟩ :=
      figureCmax_phase (p := y.profile) (st := y.station.state) (v := v) (i := i) (factor t2 tCell)
    refine ⟨precharge, bulk, taper, none, fun holdOff => ?_⟩
    rw [figureCmax_holdOff (factor t2 tCell) holdOff]
    simp only [gentle, full, f, Int.toNat_natCast, Nat.cast_lt_ofNat]
end

section
/-!
SUPPORT. What a completed sweep logs and counts, the composition run found again, and the latch at a HALTING kind.
-/

namespace Sys2Proof.Machine

/-! ### The log -/

/-- Whether a kind is held hangs on the log of its class alone (R167). -/
theorem FaultUnit.holds_congr {f g : FaultUnit} (h : ∀ c, f.log c = g.log c) (k : Kind) : f.Holds k ↔ g.Holds k := by
  simp only [Holds, h]

/-! ### The safety timers -/

theorem Charger.transition_timeoutHeld (p : Profile) (st : StationState) (ok : Bool) (i v : Int) (c : Charger) :
    (c.transition p st ok i v).timeoutHeld = c.timeoutHeld := by
  simp only [transition, leaveHoldOff, enterHoldOff]
  repeat' split
  all_goals rfl

theorem Charger.countInterval_timeoutHeld (ok : Bool) (i : Int) (t : Nat) (c : Charger) :
    (c.countInterval ok i t).timeoutHeld = c.timeoutHeld := by
  simp only [countInterval]
  repeat' split
  all_goals rfl

/-- A safety timer that runs out is held, and one held does not run out again (R125). -/
theorem Charger.sweep_timeout (p : Profile) (st : StationState) (ceiling q : Nat) (ok : Bool) (i v t2 : Int) (t : Nat)
    (c : Charger) : (c.sweep p st ceiling q ok i v t2 t).2 = true ↔
      (c.sweep p st ceiling q ok i v t2 t).1.timeoutHeld = true ∧ c.timeoutHeld = false := by
  simp only [sweep]
  split
  · rename_i expired
    simpa [countInterval_timeoutHeld] using (Bool.and_eq_true_iff.mp expired).2
  · simp [transition_timeoutHeld, countInterval_timeoutHeld]

/-! ### The composition run's reading -/

namespace State

/-- A run hangs on the station state and the peer table alone (R38). -/
theorem run_congr {s t : State} (station : t.station.state = s.station.state) (peers : t.peers = s.peers) (own : FigureSet) :
    t.run own = s.run own := by
  simp only [run, partner, station, peers]

theorem runWith_unordered (a b : FigureSet) : (runWith a b).2.unordered = (anyMark a.marks || anyMark b.marks) := by
  simp only [runWith]
  split
  · rfl
  · exact Bool.or_comm _ _

/-- A run's flag of marked figures (R58). -/
theorem run_unordered (own : FigureSet) (u : State) : (u.run own).2.unordered =
    (anyMark own.marks || (decide (u.station.state = .paired) && (u.partner.map fun e => anyMark e.marks).getD false)) := by
  simp only [run]
  split
  · rename_i paired some
    rw [runWith_unordered, paired, some]
    rfl
  · rename_i other
    change anyMark own.marks = _
    by_cases paired : u.station.state = .paired
    · cases some : u.partner with
      | none => simp
      | some e => exact absurd some (other e paired)
    · simp [paired]

/-! ### Logs kept -/

theorem enterLatched_log (c : Class) (s : State) : s.enterLatched.fault.log c = s.fault.log c := by
  simp only [enterLatched, requestSweep_fault, requestSweepIf_fault, become_fault, withPort_fault, withCharger_fault,
    setLink_fault, setCharge_fault, withFault_fault]
  cases c <;> rfl

theorem haltingEffect_log (c : Class) (s : State) : s.haltingEffect.fault.log c = s.fault.log c := by
  have opened : ({ s.fault with dischargeClosed := false } : FaultUnit).log c = s.fault.log c := by cases c <;> rfl
  simp only [haltingEffect]
  split
  case h_1 | h_2 => exact enterLatched_log c s
  case h_3 => rfl
  case h_4 | h_6 => exact opened
  case h_5 => split <;> simpa using opened

theorem raise_holds (k j : Kind) (s : State) : (s.raise k).fault.Holds j ↔ s.fault.Holds j ∨ j = k := by
  rw [← logKind_holds]
  simp only [raise]
  split
  · exact FaultUnit.holds_congr (fun c => haltingEffect_log c _) j
  · rfl

theorem raiseAll_holds (ks : List Kind) (j : Kind) (s : State) : (s.raiseAll ks).fault.Holds j ↔ s.fault.Holds j ∨ j ∈ ks := by
  induction ks generalizing s with
  | nil => simp [raiseAll_nil]
  | cons k ks ih => rw [raiseAll_cons, ih, raise_holds, List.mem_cons, or_assoc]

section
variable (r : Readings) (s : State)

/-- Steps 1 to 4 log nothing (R166). -/
theorem sweptStages_log (c : Class) : (s.sweptStages r).fault.log c = s.fault.log c := by
  have measured : (s.swept r).fault.log c = s.fault.log c := by
    simp only [swept, sweepCharger]
    split <;> simp [gaugeFull, sweepGauge]
  rw [← measured, ← sweepPort_fault (s.swept r)]
  simp only [sweptStages, sweepHinge]
  split
  · rw [setLink_fault, withApply_fault, count_log, withHinge_fault]
  · rfl

/-- And count nothing of a run (R58). -/
theorem swept_allot : (s.swept r).fault.allot = s.fault.allot := by
  have counted (b : Bool) (k : Corrected) (u : State) (h : k = .gaugeClip ∨ k = .learnReject) :
      (u.countIf b k).fault.allot = u.fault.allot := by
    rcases h with rfl | rfl <;> cases b <;> rfl
  simp only [swept, sweepCharger]
  split
  · rw [gaugeFull, counted _ _ _ (.inr rfl), withGauge_fault, withCharger_fault, sweepGauge, counted _ _ _ (.inl rfl)]
    rfl
  · rw [withCharger_fault, sweepGauge, counted _ _ _ (.inl rfl)]
    rfl

theorem sweptStages_channels (flight : s.round.inFlight = true) :
    (s.sweptStages r).round.channels = (s.completeSweep r).round.channels := by
  have stages : Follows (s.swept r) (s.sweptStages r) := (sweepPort_follows _).trans (sweepHinge_follows _)
  rw [stages.round (by rw [swept_round]; exact flight), swept_round, completeSweep_round_eq flight]

theorem mem_sweptKinds (flight : s.round.inFlight = true) (k : Kind) : k ∈ s.sweptKinds r ↔
    (k = .cellHot ∧ 120 < (s.completeSweep r).round.channels.tCell.value) ∨
    (k = .cellDeep ∧ (s.completeSweep r).round.channels.vCell.value < s.profile.deepMv) ∨
    (k = .chargeTimeout ∧ s.sweptTimeout r = true) ∨
    (k = .sensorSuspect ∧ ∃ p ∈ s.round.channels.all.zip (s.completeSweep r).round.channels.all,
      p.1.plausible = true ∧ p.2.plausible = false) := by
  have profile : (s.sweptStages r).profile = s.profile := by simp [profile, sweptStages]
  have channels : (s.takeReadings r).round.channels = (s.completeSweep r).round.channels := by
    rw [completeSweep_round_eq flight]; rfl
  have listed (p : Prop) [Decidable p] (j : Kind) : k ∈ (if p then [j] else []) ↔ k = j ∧ p := by
    split <;> rename_i h <;> simp [h]
  simp only [sweptKinds, sweepKinds, List.mem_append, sweptStages_channels r s flight, profile, channels, listed,
    Channels.newlySuspect, List.any_eq_true, Bool.and_eq_true, Bool.not_eq_true', or_assoc]

/-- Whether a safety timer runs out is read off its held expiry (R125). -/
theorem sweptTimeout_iff : s.sweptTimeout r = true ↔
    (s.completeSweep r).charger.timeoutHeld = true ∧ s.charger.timeoutHeld = false := by
  have held : (s.completeSweep r).charger.timeoutHeld = (s.swept r).charger.timeoutHeld := by
    obtain ⟨-, -, -, -, charger⟩ := completeSweep_blocks r s
    obtain ⟨-, timeout, -⟩ := (s.sweptRaised r).readyToCompose_charger
    rw [charger, timeout, (sweptRaised_follows r s).timeout]
  rw [held]
  simp only [swept, sweptTimeout, sweepCharger]
  split
  · simp only [gaugeFull, countIf_charger, withGauge_charger, withCharger_charger]
    rw [Charger.sweep_timeout]
    simp
  · rw [withCharger_charger, Charger.sweep_timeout]
    simp

/-- Composing logs LOAD_SHORTFALL, and nothing else (R57). -/
theorem completeSweep_holds (k : Kind) : (s.completeSweep r).fault.Holds k ↔
    (s.sweptRaised r).fault.Holds k ∨ (k = .loadShortfall ∧ 0 < (s.sweptRaised r).compositionRun.1.shortfall) := by
  generalize hy : s.sweptRaised r = y
  have left : (s.completeSweep r).fault.Holds k ↔ y.shortfallReported.fault.Holds k := by
    refine FaultUnit.holds_congr (fun c => ?_) k
    rw [completeSweep_eq, hy, sweepCompose_eq, endSweep_fault, handState_log, recordComposed_fault, readyToCompose,
      handAll_fault, countIf_log]
  rw [left, shortfallReported, raise_loadShortfall]
  split
  · rename_i short
    rw [logKind_holds, runTaken_fault]
    simp [short]
  · rename_i none
    rw [runTaken_fault]
    simp [none]

/-- A run on a marked figure is counted (R58). -/
theorem completeSweep_allot : (s.completeSweep r).fault.allot =
    if (s.sweptRaised r).compositionRun.2.unordered then s.fault.allot.bump else s.fault.allot := by
  have raised := (sweptRaised_follows r s).allot
  rw [swept_allot] at raised
  rw [← raised]
  generalize hy : s.sweptRaised r = y
  have reported : y.shortfallReported.fault.allot = y.fault.allot := by
    rw [shortfallReported, raise_loadShortfall]
    split
    · rw [logKind_allot, runTaken_fault]
    · rw [runTaken_fault]
  rw [completeSweep_eq, hy, sweepCompose_eq, endSweep_fault, handState_allot, recordComposed_fault, readyToCompose,
    handAll_fault, ← reported]
  cases y.compositionRun.2.unordered <;> rfl

/-- The run's flags are accrued (R56). -/
theorem completeSweep_accrued : (s.completeSweep r).accrued = s.accrued.add (s.sweptRaised r).compositionRun.2 := by
  have raised : (s.sweptRaised r).accrued = s.accrued := by simp [sweptRaised, sweptStages, swept]
  rw [← raised]
  generalize hy : s.sweptRaised r = y
  rw [completeSweep_eq, hy, sweepCompose_eq, endSweep_accrued, handState_accrued, recordComposed_accrued, readyToCompose,
    handAll_accrued, countIf_accrued, shortfallReported_eq]
  simp only [runTaken, accrue, withAccrued_accrued]
  simp [recordedL]

/-! ### The composition run found again -/

/-- The run made on what is composed is the composition run (R38). -/
theorem completeSweep_run (flight : s.round.inFlight = true) :
    (s.completeSweep r).run ((s.completeSweep r).composedSet (s.sweptContents r)) = (s.sweptRaised r).compositionRun := by
  obtain ⟨station, -, hinge, -, -⟩ := completeSweep_blocks r s
  obtain ⟨-, -, barred, -⟩ := (s.sweptRaised r).readyToCompose_stages
  have contents := sweptContents_eq r s
  have lastL : (s.completeSweep r).round.lastL = (s.sweptRaised r).recordedL.round.lastL := by
    rw [completeSweep_round_eq flight]
  have peers : (s.completeSweep r).peers = (s.sweptRaised r).peers := by simp [completeSweep_eq]
  have start : (s.completeSweep r).start = (s.sweptRaised r).start := by simp [completeSweep_eq]
  generalize s.sweptRaised r = y at *
  have own : (s.completeSweep r).composedSet (s.sweptContents r) = y.recordedL.sweepSet y.deriveFigures y.deriveMarks := by
    simp only [composedSet, sweepSet, contents, lastL, start, barred, readyToCompose_policy, recordedL, recordL_start,
      recordL_policy, recordL_hinge]
  rw [own, compositionRun]
  exact run_congr (by rw [station, readyToCompose_station]; simp [recordedL]) (by rw [peers]; simp [recordedL]) _

end

/-! ### The latch -/

/-- What entry into LATCHED leaves (R171). -/
structure Latched (s : State) : Prop where
  state : s.station.state = .latched
  discharge : s.fault.dischargeClosed = false
  charge : s.apply.charge = 0
  link : s.apply.link = 0
  phase : s.charger.phase = .holdOff
  port : s.port.port ≠ .probing

theorem enterLatched_latched (s : State) : s.enterLatched.Latched := by
  obtain ⟨discharge, charge, link, station, phase, -, port, -⟩ := s.enterLatched_spec
  refine ⟨by rw [station], discharge, charge, link, phase, ?_⟩
  rw [port, InputPort.abortProbe]
  split
  · exact nofun
  · assumption

theorem Latched.logKind {s : State} (h : s.Latched) (k : Kind) : (s.logKind k).Latched :=
  ⟨by rw [logKind_station]; exact h.state, by rw [logKind_dischargeClosed]; exact h.discharge,
    by rw [logKind_apply]; exact h.charge, by rw [logKind_apply]; exact h.link, by rw [logKind_charger]; exact h.phase,
    by rw [logKind_port]; exact h.port⟩

theorem Latched.raise {s : State} (h : s.Latched) (k : Kind) : (s.raise k).Latched := by
  simp only [State.raise]
  split
  · rw [haltingEffect, (h.logKind k).state]; exact h.logKind k
  · exact h.logKind k

theorem Latched.raiseAll {s : State} (h : s.Latched) (ks : List Kind) : (s.raiseAll ks).Latched := by
  induction ks generalizing s with
  | nil => exact h
  | cons k ks ih => exact ih (h.raise k)

/-- A HALTING kind among those of one event latches a SOLO or PAIRED station (R171). -/
theorem raiseAll_latched {s : State} {ks : List Kind} {k : Kind} (serving : s.station.state = .solo ∨ s.station.state = .paired)
    (mem : k ∈ ks) (halting : k.severity = .halting) : (s.raiseAll ks).Latched := by
  induction ks generalizing s with
  | nil => cases mem
  | cons j ks ih =>
    rw [raiseAll_cons]
    by_cases h : j.severity = .halting
    · have latched : (s.raise j).Latched := by
        rw [raise_halting j s h, haltingEffect, logKind_station]
        rcases serving with e | e <;> rw [e] <;> exact enterLatched_latched _
      exact latched.raiseAll ks
    · have later : k ∈ ks := (List.mem_cons.mp mem).resolve_left fun e => h (e ▸ halting)
      refine ih ?_ later
      simpa [raise, h] using serving

theorem hand_zero_holdOff (st : StationState) (v : Int) (ma : Nat) {c : Charger} (h : c.phase = .holdOff) :
    (c.hand st v 0 ma).phase = .holdOff := by
  simp only [Charger.hand, h]
  repeat' split
  all_goals simp_all

theorem setCharge_uncharged {u : State} (h : u.apply.charge = 0) (c : Nat) : u.setCharge (min u.apply.charge c) = u := by
  simp [setCharge, h]

/-- With no charge applied a run hands the charger nothing that moves it. -/
theorem runTaken_uncharged {s : State} (h : s.apply.charge = 0) :
    s.runTaken.charger = s.charger ∧ s.runTaken.apply.charge = 0 := by
  obtain ⟨-, -, -, -, charge, -⟩ := replaceProposal_apply s.compositionRun.1.setting s.compositionRun.2.code s.recordedL
  have zero : s.recordedL.apply.charge = 0 := by simpa [recordedL] using h
  refine ⟨?_, by simp only [runTaken, accrue_apply]; rw [charge, zero, Nat.zero_min]⟩
  simp only [runTaken, accrue_charger, replaceProposal, setLink_charger]
  rw [setCharge_uncharged]
  · simp [recordedL]
  · rw [setDraw_eq]; exact zero

/-- The composition keeps it: a proposal raises nothing from 0. -/
theorem Latched.readyToCompose {s : State} (h : s.Latched) : s.readyToCompose.Latched := by
  obtain ⟨-, -, -, -, charge, link⟩ := s.readyToCompose_apply
  obtain ⟨-, -, -, port⟩ := s.readyToCompose_stages
  refine ⟨by rw [readyToCompose_station]; exact h.state, ?_, by rw [charge, h.charge, Nat.zero_min], ?_, ?_, ?_⟩
  · rw [State.readyToCompose, handAll_fault, ← h.discharge, ← runTaken_fault s]
    have counted (b : Bool) (u : State) : (u.countIf b .allotUnordered).fault.dischargeClosed = u.fault.dischargeClosed := by
      cases b <;> rfl
    rw [counted, shortfallReported, raise_loadShortfall]
    split
    exacts [logKind_dischargeClosed _ _, rfl]
  · rw [link, h.link]; simp [linkUnder]
  · obtain ⟨u, e, apply, -, -, charger⟩ := s.readyToCompose_blocks
    obtain ⟨still, zero⟩ := runTaken_uncharged h.charge
    rw [e]
    change (u.charger.hand _ _ u.apply.charge _).phase = _
    rw [apply, zero]
    exact hand_zero_holdOff _ _ _ (by rw [charger, still]; exact h.phase)
  · rw [port]; exact h.port

/-- A HALTING kind of step 5 latches a SOLO or PAIRED station, and what it composes says so. -/
theorem completeSweep_latched {r : Readings} {s : State} {k : Kind}
    (serving : s.station.state = .solo ∨ s.station.state = .paired) (mem : k ∈ s.sweptKinds r) (halting : k.severity = .halting) :
    (s.completeSweep r).Latched ∧ (s.sweptContents r).station = .latched ∧ (s.sweptContents r).figures.cmax = 0 ∧
      (s.sweptContents r).figures.dmax = 0 := by
  have raised : (s.sweptRaised r).Latched := raiseAll_latched (by rwa [sweptStages_station]) mem halting
  obtain ⟨station, apply, -, port, charger⟩ := completeSweep_blocks r s
  have ready := raised.readyToCompose
  have discharge : (s.completeSweep r).fault.dischargeClosed = (s.sweptRaised r).readyToCompose.fault.dischargeClosed := by
    rw [completeSweep_eq, sweepCompose_eq, endSweep_fault, handState_dischargeClosed, recordComposed_fault]
  refine ⟨⟨by rw [station]; exact ready.state, by rw [discharge]; exact ready.discharge, by rw [apply]; exact ready.charge,
    by rw [apply]; exact ready.link, by rw [charger]; exact ready.phase, by rw [port]; exact ready.port⟩, ?_, ?_, ?_⟩
  all_goals rw [sweptContents_eq]
  · exact ready.state
  · simp only [deriveFigures]
    rw [figureCmax_holdOff rfl raised.phase, raised.state]
    simp
  · simp only [deriveFigures, figureDmax, raised.state, or_true, if_true]

end State
end Sys2Proof.Machine

open Sys2Proof Sys2Proof.Machine

/-- Settles O18: step 5 raises the kinds of its list and the composition at most one more, and a HALTING one has latched the
station before the figures are taken. -/
theorem sweepLatches : Obligations.SweepLatches := by
  intro r s flight
  have run := State.completeSweep_run r s flight
  have contents := State.sweptContents_eq r s
  refine ⟨_, s.sweptContents r, State.exec_sweepComplete flight, by rw [State.completeSweep_round_eq flight], ?_⟩
  intro hot deep expired suspect run' marked partnerMarked
  have kinds := State.mem_sweptKinds r s flight
  have timeout := State.sweptTimeout_iff r s
  refine ⟨fun k => ?_, ?_, ?_, ?_, ?_, fun serving halting => ?_⟩
  · rw [State.completeSweep_holds, State.sweptRaised, State.raiseAll_holds, FaultUnit.holds_congr (State.sweptStages_log r s),
      kinds, timeout, ← State.sweptRaised, ← run]
    simp only [or_assoc]
    rfl
  · simp only [run', run, contents]
  · simp only [run', run, contents]
  · rw [State.completeSweep_accrued, ← run]
  · rw [State.completeSweep_allot, ← run, State.run_unordered]
    rfl
  · have latches {k : Kind} (mem : k ∈ s.sweptKinds r) (h : k.severity = .halting) :
        (s.completeSweep r).station.state = .latched ∧ (s.sweptContents r).station = .latched ∧
          (s.sweptContents r).figures.cmax = 0 ∧ (s.sweptContents r).figures.dmax = 0 ∧
          (s.completeSweep r).fault.dischargeClosed = false ∧ (s.completeSweep r).apply.charge = 0 ∧
          (s.completeSweep r).apply.link = 0 ∧ (s.completeSweep r).charger.phase = .holdOff ∧
          (s.completeSweep r).port.port ≠ .probing := by
      obtain ⟨⟨state, discharge, charge, link, phase, port⟩, station, cmax, dmax⟩ := State.completeSweep_latched serving mem h
      exact ⟨state, station, cmax, dmax, discharge, charge, link, phase, port⟩
    rcases halting with h | h | h
    · exact latches ((kinds .cellHot).mpr (.inl ⟨rfl, h⟩)) rfl
    · exact latches ((kinds .cellDeep).mpr (.inr (.inl ⟨rfl, h⟩))) rfl
    · exact latches ((kinds .chargeTimeout).mpr (.inr (.inr (.inl ⟨rfl, timeout.mpr h⟩)))) rfl
end

section
/-!
SUPPORT. The profile that PROFILE chooses (R20, R22, R23) and what the stage leaves of the fault unit.
-/

namespace Sys2Proof.Machine

/-- The window of R20 of the profile numbered `n` holds the reading. -/
def InWindow (packId n : Nat) : Prop :=
  (n = 1 ∧ 90 ≤ packId ∧ packId ≤ 110) ∨ (n = 2 ∧ 140 ≤ packId ∧ packId ≤ 165) ∨ (n = 3 ∧ 200 ≤ packId ∧ packId ≤ 235) ∨
    (n = 4 ∧ 270 ≤ packId ∧ packId ≤ 310) ∨ (n = 5 ∧ 360 ≤ packId ∧ packId ≤ 410) ∨
    (n = 6 ∧ 470 ≤ packId ∧ packId ≤ 530) ∨ (n = 7 ∧ 620 ≤ packId ∧ packId ≤ 700) ∨ (n = 8 ∧ 820 ≤ packId ∧ packId ≤ 920)

theorem profileRow_matches_iff (packId : Nat) (n : Fin 9) : (profileRow n).matches packId = true ↔ InWindow packId n.val := by
  fin_cases n <;> simp [profileRow, Profile.matches, InWindow]

theorem InWindow.range {packId n : Nat} (h : InWindow packId n) : 1 ≤ n ∧ n ≤ 8 := by
  unfold InWindow at h; omega

/-- No two windows of R20 meet. -/
theorem InWindow.unique {packId n m : Nat} (h : InWindow packId n) (k : InWindow packId m) : n = m := by
  unfold InWindow at h k; omega

theorem inWindow_of_matchPack {packId : Nat} {m : Fin 9} (h : matchPack packId = some m) : InWindow packId m.val :=
  (profileRow_matches_iff packId m).mp (List.find?_some (p := fun n => (profileRow n).matches packId) h)

theorem matchPack_some {packId : Nat} {n : Fin 9} (h : InWindow packId n.val) : matchPack packId = some n := by
  have listed : n ∈ ([1, 2, 3, 4, 5, 6, 7, 8] : List (Fin 9)) := by
    have := h.range
    clear h
    decide +revert
  cases found : matchPack packId with
  | none => exact absurd ((profileRow_matches_iff packId n).mpr h) (List.find?_eq_none.mp found n listed)
  | some m => rw [Fin.ext ((inWindow_of_matchPack found).unique h)]

theorem matchPack_none {packId : Nat} (h : ∀ n, ¬InWindow packId n) : matchPack packId = none :=
  List.find?_eq_none.mpr fun n _ row => h n.val ((profileRow_matches_iff packId n).mp row)

/-! ### The choice -/

theorem chooseProfile_strapped {field : Fin 16} (packId : Nat) (lo : 1 ≤ field.val) (hi : field.val ≤ 8) :
    (chooseProfile field packId).1.val = field.val ∧ (chooseProfile field packId).2 = .ok := by
  have auto : field.val ≠ 0 := by omega
  have strap : field.val < 9 := by omega
  simp [chooseProfile, auto, strap]

theorem chooseProfile_invalid {field : Fin 16} (packId : Nat) (h : 9 ≤ field.val) :
    chooseProfile field packId = (0, .fallback) := by
  have auto : field.val ≠ 0 := by omega
  have strap : ¬field.val < 9 := by omega
  simp [chooseProfile, auto, strap]

theorem chooseProfile_match {packId n : Nat} (h : InWindow packId n) :
    (chooseProfile 0 packId).1.val = n ∧ (chooseProfile 0 packId).2 = .ok := by
  have found : matchPack packId = some ⟨n, by have := h.range; omega⟩ := matchPack_some h
  simp [chooseProfile, found]

theorem chooseProfile_unmatched {packId : Nat} (h : ∀ n, ¬InWindow packId n) : chooseProfile 0 packId = (0, .fallback) := by
  simp [chooseProfile, matchPack_none h]

namespace State

/-! ### The stage -/

theorem handAlert_armed (a : AlertContents) (s : State) : (s.handAlert a).fault.armed = s.fault.armed := by
  simp only [handAlert, countIf]
  repeat' split
  all_goals rfl

theorem logKind_armed (k : Kind) (s : State) : (s.logKind k).fault.armed = s.fault.armed := by
  have other (c : Class) (v : ClassLog) : (s.fault.withLog c v).armed = s.fault.armed := by cases c <;> rfl
  simp only [logKind]
  split
  · rfl
  · split
    · exact other _ _
    · rw [handAlert_armed]; exact other _ _

/-- The state at the end of PROFILE, before a fallback is reported (R22, R24, R26). -/
def profiled (packId vCell : Nat) (s : State) : State :=
  let choice := chooseProfile s.start.straps.profileField packId
  { s with
    start := { s.start with
      profile := choice.1
      record := { s.start.record with stage := 3, profileResult := choice.2, profile := some choice.1 } }
    gauge := if s.gauge.initPending then s.gauge.initialise (profileRow choice.1).capacity vCell else s.gauge
    fault := { s.fault with armed := true } }

/-- The end of PROFILE reports at most a fallback, under AUTO alone (R23). -/
theorem endProfile_eq (packId vCell : Nat) (s : State) : s.endProfile packId vCell =
    if s.start.straps.profileField = 0 ∧ (chooseProfile s.start.straps.profileField packId).2 = .fallback
    then (s.profiled packId vCell).logKind .profileFallback else s.profiled packId vCell := by
  rw [← raise_degraded .profileFallback _ rfl]
  rfl

/-- The end of PROFILE is `profiled` but for what a report writes. -/
theorem endProfile_blocks (packId vCell : Nat) (s : State) :
    let t := s.endProfile packId vCell
    t = { s.profiled packId vCell with fault := t.fault, line := t.line } ∧ t.fault.armed = true := by
  rw [endProfile_eq]
  split
  · exact ⟨logKind_eq _ _, logKind_armed _ _⟩
  · exact ⟨rfl, rfl⟩

end State
end Sys2Proof.Machine

open Sys2Proof Sys2Proof.Machine

/-- Settles O8: the choice follows R22, and past it only a fallback under AUTO is reported. -/
theorem profileComplete : Obligations.ProfileComplete := by
  intro packId vCell s start stage high field inWindow
  have exec_eq : exec (.profileComplete packId vCell) s = .next (s.endProfile packId vCell) := by
    simp [exec, execProfileComplete, (State.atStage_iff 2 s).mpr ⟨start, stage, high⟩]
  obtain ⟨blocks, armed⟩ := s.endProfile_blocks packId vCell
  have silent (h : ¬(s.start.straps.profileField = 0 ∧
      (chooseProfile s.start.straps.profileField packId).2 = .fallback)) :
      s.endProfile packId vCell = s.profiled packId vCell := by rw [State.endProfile_eq, if_neg h]
  have reports (h : s.start.straps.profileField = 0 ∧
      (chooseProfile s.start.straps.profileField packId).2 = .fallback) :
      (s.endProfile packId vCell).fault.Holds .profileFallback := by
    rw [State.endProfile_eq, if_pos h]
    exact (State.logKind_holds _ _ _).mpr (.inr rfl)
  generalize s.endProfile packId vCell = t at *
  have chosen : t.start = (s.profiled packId vCell).start := by rw [blocks]
  have gauge : t.gauge = (s.profiled packId vCell).gauge := by rw [blocks]
  have auto (h : field = 0) : s.start.straps.profileField = 0 := Fin.ext h
  refine ⟨t, exec_eq, by rw [chosen]; rfl, by rw [chosen]; rfl, armed, fun lo hi => ?_, fun invalid => ?_,
    fun zero n held => ?_, fun zero none => ?_, fun quiet => ?_, fun still => ?_, fun pending => ?_, ?_, ?_⟩
  · rw [chosen]
    exact chooseProfile_strapped packId lo hi
  · rw [chosen]
    simp [State.profiled, chooseProfile_invalid packId invalid]
  · rw [chosen]
    simpa [State.profiled, auto zero] using chooseProfile_match held
  · have choice := chooseProfile_unmatched none
    refine ⟨?_, ?_, reports ⟨auto zero, by rw [auto zero, choice]⟩⟩ <;> rw [chosen] <;>
      simp [State.profiled, auto zero, choice]
  · have matched : ¬(s.start.straps.profileField = 0 ∧
        (chooseProfile s.start.straps.profileField packId).2 = .fallback) := by
      rintro ⟨zero, fallback⟩
      rcases quiet with strapped | ⟨n, held⟩
      · exact strapped (congrArg Fin.val zero)
      · rw [zero, (chooseProfile_match held).2] at fallback
        cases fallback
    rw [silent matched]
    exact ⟨rfl, rfl⟩
  · rw [gauge]
    simp [State.profiled, still]
  · rw [gauge, chosen]
    simp [State.profiled, pending, Gauge.initialise]
  · rw [blocks]
    rfl
  · rw [chosen]
    rfl
end

section
/-!
SUPPORT. The gauge at a sweep (R29 to R35), the charger's entry into FULL, and what the later steps leave of both.
-/

namespace Sys2Proof.Machine

/-! ### The gauge's own step -/

namespace Gauge

/-- The whole units that a sweep takes out of the residue (R29). -/
def unitsOver (i : Int) (t : Nat) (g : Gauge) : Int :=
  (g.residue + i * t).tdiv 360000

/-- The count that units added lead to, within its bounds (R30). -/
def countAfter (d : Int) (g : Gauge) : Int :=
  max 0 (min (g.count + d) g.top)

theorem integrate_count (i : Int) (t : Nat) (g : Gauge) :
    ((g.integrate i t).1.count : Int) = g.countAfter (g.unitsOver i t) :=
  Int.toNat_of_nonneg (le_max_left _ _)

theorem integrate_residue (i : Int) (t : Nat) (g : Gauge) : (g.integrate i t).1.residue.natAbs < 360000 := by
  have above := Int.lt_tmod_of_pos (g.residue + i * t) (b := 360000) (by omega)
  have below := Int.tmod_lt_of_pos (g.residue + i * t) (b := 360000) (by omega)
  change ((g.residue + i * t).tmod 360000).natAbs < 360000
  omega

/-- Strictly within its bounds the count has taken every unit, so count and residue together hold the charge (R29, R30). -/
theorem integrate_conserves {i : Int} {t : Nat} {g : Gauge} (pos : 0 < (g.integrate i t).1.count)
    (below : (g.integrate i t).1.count < 10 * g.capacity) :
    360000 * ((g.integrate i t).1.count : Int) + (g.integrate i t).1.residue =
      360000 * (g.count : Int) + g.residue + i * t := by
  have count := g.integrate_count i t
  have whole : ((g.integrate i t).1.count : Int) = g.count + g.unitsOver i t := by
    simp only [countAfter, top] at count
    omega
  have division := Int.mul_tdiv_add_tmod (g.residue + i * t) 360000
  change _ + (g.residue + i * t).tmod 360000 = _
  rw [whole, unitsOver]
  omega

/-- Whether a count is one of its bounds (R30). -/
def atBound (n : Int) (g : Gauge) : Bool :=
  decide (n = 0) || decide (n = g.top)

/-- R30's return of the overrun to 0: the count moves, onto a bound or away from one. -/
theorem overrunBefore_eq (new : Int) (g : Gauge) : g.overrunBefore new =
    if (g.count : Int) ≠ new ∧ (g.atBound new || g.atBound g.count) = true then 0 else g.overrun := by
  by_cases same : (g.count : Int) = new
  · simp [overrunBefore, same]
  · simp [overrunBefore, atBound, same, or_assoc]

/-- What R31 does at a suspect current: the window closes, and its span with it. -/
theorem skip_fields (g : Gauge) : g.skip.count = g.count ∧ g.skip.residue = g.residue ∧ g.skip.learning = false ∧
    g.skip.capacity = g.capacity ∧ g.skip.overrun = g.overrun ∧ g.skip.span = if g.learning then 0 else g.span := by
  simp only [skip]
  cases learning : g.learning
  · exact ⟨rfl, rfl, learning, rfl, rfl, rfl⟩
  · exact ⟨rfl, rfl, rfl, rfl, rfl, rfl⟩

section
variable (cutoff : Nat) (ok : Bool) {i v : Int} (moment : Nat) (g : Gauge)

/-- A discharge at the cutoff recalibrates at EMPTY, whatever the current's plausibility (R33). -/
theorem sweep_discharged (low : v ≤ cutoff ∧ i < 0) : (g.sweep cutoff ok i v moment).1 =
    { g with count := 0, residue := 0, overrun := 0, learning := true, span := 0, previous := some moment } := by
  have capacity : g.skip.capacity = g.capacity ∧ g.skip.initPending = g.initPending := by
    simp only [skip]
    split <;> exact ⟨rfl, rfl⟩
  cases ok
  · simp [sweep, low, empty, capacity]
  · simp [sweep, low, empty, integrate, addUnits]

variable {cutoff}

/-- A suspect current counts nothing (R31). -/
theorem sweep_suspect (high : ¬(v ≤ cutoff ∧ i < 0)) :
    (g.sweep cutoff false i v moment).1 = { g.skip with previous := some moment } := by
  simp [sweep, high]

theorem sweep_plausible (high : ¬(v ≤ cutoff ∧ i < 0)) :
    (g.sweep cutoff true i v moment).1 = { (g.integrate i (g.interval moment)).1 with previous := some moment } := by
  simp [sweep, high]

/-- GAUGE_CLIP is reported of a plausible current alone, at EMPTY also (R30, R31). -/
theorem sweep_clip : (g.sweep cutoff ok i v moment).2 = (ok && (g.integrate i (g.interval moment)).2) := by
  cases ok <;> rfl

end

/-- Recalibrated at FULL the gauge reads 100 % (R32, R34). -/
theorem full_q {nominal : Nat} {g : Gauge} (positive : 0 < (g.full nominal).1.capacity) : (g.full nominal).1.q = 1000 := by
  have share : (g.full nominal).1.count * 100 / (g.full nominal).1.capacity = 1000 := by
    rw [show (g.full nominal).1.count = (g.full nominal).1.capacity * 10 from rfl, Nat.mul_assoc]
    exact Nat.mul_div_cancel_left _ positive
  rw [q, share, Nat.min_self]

/-- A capacity learned is at least 0.8 times nominal (R34). -/
theorem full_capacity_pos (n : Fin 9) {g : Gauge} (capacity : 0 < g.capacity) :
    0 < (g.full (profileRow n).capacity).1.capacity := by
  have nominal : 1000 ≤ (profileRow n).capacity := by decide +revert
  simp only [full]
  split
  · rename_i learned
    simp only [learns, Bool.and_eq_true, decide_eq_true_eq] at learned
    omega
  · exact capacity

end Gauge

/-! ### Entry into FULL -/

theorem Charger.countInterval_phase (ok : Bool) (i : Int) (t : Nat) (c : Charger) :
    (c.countInterval ok i t).phase = c.phase ∧ (c.countInterval ok i t).termination = c.termination := by
  simp only [countInterval]
  repeat' split
  all_goals exact ⟨rfl, rfl⟩

/-- FULL is entered from TAPER alone, at the second sweep that terminates (R119, R121). -/
theorem Charger.transition_full {p : Profile} {st : StationState} {ok : Bool} {i v : Int} {c : Charger}
    (before : c.phase ≠ .full) (after : (c.transition p st ok i v).phase = .full) :
    c.phase = .taper ∧ 2 ≤ c.terminationJudged p ok i := by
  obtain ⟨holdOff, precharge, bulk, -, -⟩ := c.transition_cases p st ok i v
  cases phase : c.phase with
  | holdOff => simpa [after] using holdOff phase
  | precharge => simpa [after] using precharge phase
  | bulk => simpa [after] using bulk phase
  | full => exact absurd phase before
  | taper =>
    refine ⟨rfl, ?_⟩
    by_contra few
    simp only [transition, phase, if_neg few] at after
    split at after <;> cases after

/-- A suspect current, or one of discharge, does not terminate (R121). -/
theorem Charger.terminationJudged_rises {p : Profile} {ok : Bool} {i : Int} {c : Charger}
    (h : c.termination < c.terminationJudged p ok i) : ok = true ∧ 0 ≤ i := by
  simp only [terminationJudged] at h
  split at h
  · omega
  · rename_i plausible
    split at h
    · omega
    · exact ⟨by simpa using plausible, by omega⟩

theorem Charger.sweep_full {p : Profile} {st : StationState} {ceiling q : Nat} {ok : Bool} {i v t2 : Int} {t : Nat}
    {c : Charger} (few : c.termination ≤ 1) (before : c.phase ≠ .full)
    (after : (c.sweep p st ceiling q ok i v t2 t).1.phase = .full) : c.phase = .taper ∧ ok = true ∧ 0 ≤ i := by
  obtain ⟨phase, termination⟩ := ({ c with band := some (bandOf t2) } : Charger).countInterval_phase ok i t
  simp only [sweep] at after
  split at after
  · cases after
  · obtain ⟨taper, twice⟩ := transition_full (by simpa [phase] using before) after
    refine ⟨phase.symm.trans taper, terminationJudged_rises (lt_of_le_of_lt ?_ twice)⟩
    exact termination.trans_le few

theorem Charger.hand_zero_phase (st : StationState) (v : Int) (ma : Nat) (c : Charger) :
    (c.hand st v 0 ma).phase = c.phase ∨ (c.hand st v 0 ma).phase = .holdOff := by
  simp only [hand, lt_irrefl, and_false, if_false]
  split
  · split
    exacts [.inr rfl, .inr rfl, .inr rfl, .inl rfl, .inl rfl]
  · exact .inl rfl

namespace State

/-! ### What follows the first two steps -/

/-- `t` keeps of `s` what the gauge's step left of the fault unit, and its charger phase but for what R120 and R171 end. -/
structure KeepsGauging (s t : State) : Prop where
  phase : t.charger.phase = s.charger.phase ∨ t.charger.phase = .holdOff
  counter : t.fault.gauge = s.fault.gauge

theorem KeepsGauging.refl (s : State) : KeepsGauging s s := ⟨.inl rfl, rfl⟩

theorem KeepsGauging.trans {s t u : State} (h : KeepsGauging s t) (k : KeepsGauging t u) : KeepsGauging s u :=
  ⟨k.phase.elim (fun e => h.phase.imp e.trans e.trans) .inr, k.counter.trans h.counter⟩

theorem handAlert_gaugeCounter (a : AlertContents) (s : State) : (s.handAlert a).fault.gauge = s.fault.gauge := by
  simp only [handAlert, countIf]
  repeat' split
  all_goals rfl

theorem handState_gaugeCounter (p : OwnState) (s : State) : (s.handState p).fault.gauge = s.fault.gauge := by
  simp only [handState, countIf]
  repeat' split
  all_goals rfl

theorem logKind_gaugeCounter (k : Kind) (s : State) : (s.logKind k).fault.gauge = s.fault.gauge := by
  have other (c : Class) (v : ClassLog) : (s.fault.withLog c v).gauge = s.fault.gauge := by cases c <;> rfl
  simp only [logKind]
  split
  · rfl
  · split
    · exact other _ _
    · rw [handAlert_gaugeCounter]; exact other _ _

theorem logKind_keepsGauging (k : Kind) (s : State) : KeepsGauging s (s.logKind k) :=
  ⟨.inl (by rw [logKind_charger]), logKind_gaugeCounter k s⟩

theorem setCharge_zero_keepsGauging (s : State) : KeepsGauging s (s.setCharge 0) := by
  refine ⟨?_, by rw [setCharge_fault]⟩
  simp only [setCharge]
  split
  · exact .inl rfl
  · exact Charger.hand_zero_phase _ _ _ _

theorem enterLatched_keepsGauging (s : State) : KeepsGauging s s.enterLatched := by
  obtain ⟨-, -, -, -, phase, -⟩ := s.enterLatched_spec
  refine ⟨.inr phase, ?_⟩
  simp only [enterLatched, requestSweep_fault, requestSweepIf_fault, become_fault, withPort_fault, withCharger_fault,
    setLink_fault, setCharge_fault, withFault_fault]

theorem haltingEffect_keepsGauging (s : State) : KeepsGauging s s.haltingEffect := by
  have opened : KeepsGauging s (s.withFault { s.fault with dischargeClosed := false }) := ⟨.inl rfl, rfl⟩
  have uncharged := opened.trans (setCharge_zero_keepsGauging _)
  simp only [haltingEffect]
  split
  case h_1 | h_2 => exact enterLatched_keepsGauging s
  case h_3 => exact .refl s
  case h_4 => exact ⟨.inl rfl, rfl⟩
  case h_6 => exact opened
  case h_5 =>
    split
    · exact uncharged
    · exact uncharged.trans ⟨.inr rfl, rfl⟩

theorem raise_keepsGauging (k : Kind) (s : State) : KeepsGauging s (s.raise k) := by
  simp only [raise]
  split
  · exact (logKind_keepsGauging k s).trans (haltingEffect_keepsGauging _)
  · exact logKind_keepsGauging k s

theorem raiseAll_keepsGauging (ks : List Kind) (s : State) : KeepsGauging s (s.raiseAll ks) := by
  induction ks generalizing s with
  | nil => exact .refl s
  | cons k ks ih => exact (raise_keepsGauging k s).trans (ih _)

theorem sweepHinge_keepsGauging (s : State) : KeepsGauging s s.sweepHinge := by
  simp only [sweepHinge]
  split
  · exact ⟨.inl (by rw [setLink_charger]; rfl), by rw [setLink_fault]; rfl⟩
  · exact ⟨.inl rfl, rfl⟩

section
variable (r : Readings) (s : State)

theorem sweptRaised_keepsGauging : KeepsGauging (s.swept r) (s.sweptRaised r) :=
  have port : KeepsGauging (s.swept r) (s.swept r).sweepPort := ⟨.inl (by rw [sweepPort_charger]), by rw [sweepPort_fault]⟩
  (port.trans (sweepHinge_keepsGauging _)).trans (raiseAll_keepsGauging _ _)

/-- Past its first two steps a sweep leaves the counter GAUGE. -/
theorem completeSweep_gaugeCounter : (s.completeSweep r).fault.gauge = (s.swept r).fault.gauge := by
  rw [← (sweptRaised_keepsGauging r s).counter]
  generalize hy : s.sweptRaised r = y
  have counted (b : Bool) (u : State) : (u.countIf b .allotUnordered).fault.gauge = u.fault.gauge := by cases b <;> rfl
  rw [completeSweep_eq, hy, sweepCompose_eq, endSweep_fault, handState_gaugeCounter, recordComposed_fault, readyToCompose,
    handAll_fault, counted, shortfallReported, raise_loadShortfall]
  split
  · rw [logKind_gaugeCounter, runTaken_fault]
  · rw [runTaken_fault]

/-- The phase posted is the one step 2 left, or HOLD_OFF (R16, R171). -/
theorem sweptContents_phase : (s.sweptContents r).phase = (s.swept r).charger.phase ∨ (s.sweptContents r).phase = .holdOff := by
  rw [sweptContents_eq]
  exact (sweptRaised_keepsGauging r s).phase

theorem sweptContents_q : (s.sweptContents r).figures.q = (s.swept r).gauge.q := by
  rw [sweptContents_eq, ← sweptRaised_gauge]
  rfl

/-! ### The first two steps -/

/-- The gauge after step 1 of R5, and whether GAUGE_CLIP is reported. -/
def measured : Gauge × Bool :=
  let ch := s.round.channels.judge s.start.straps.inputFitted r
  s.gauge.sweep s.profile.cutoffMv ch.iCell.plausible ch.iCell.value ch.vCell.value (s.clock - r.lag)

/-- Whether the sweep leads the charger into FULL. -/
abbrev EntersFull : Prop :=
  s.charger.phase ≠ .full ∧ (s.swept r).charger.phase = .full

theorem countIf_gaugeCounter (b : Bool) {k : Corrected} (h : k = .gaugeClip ∨ k = .learnReject) (u : State) :
    (u.countIf b k).fault.gauge = if b then u.fault.gauge.bump else u.fault.gauge := by
  rcases h with rfl | rfl <;> cases b <;> rfl

/-- What step 1 of R5 leaves of what step 2 reads. -/
theorem sweepGauge_takeReadings :
    let u := (s.takeReadings r).sweepGauge (s.clock - r.lag)
    u.charger = s.charger ∧ u.profile = s.profile ∧ u.gauge = (s.measured r).1 ∧
      u.fault.gauge = if (s.measured r).2 then s.fault.gauge.bump else s.fault.gauge :=
  ⟨sweepGauge_charger _ _, congrArg (fun b : StartSequencer => profileRow b.profile) (sweepGauge_start _ _), countIf_gauge _ _ _,
    countIf_gaugeCounter _ (.inl rfl) _⟩

/-- The charger after step 2 is the charger's own sweep (R118). -/
theorem sweepCharger_charger (t : Nat) : (s.sweepCharger t).1.charger =
    let ch := s.round.channels
    (s.charger.sweep s.profile s.station.state s.policy.ceiling s.gauge.q ch.iCell.plausible ch.iCell.value
      ch.vCell.value ch.tCell.value t).1 := by
  simp only [sweepCharger]
  split
  · rw [gaugeFull, countIf_charger, withGauge_charger, withCharger_charger]
  · rw [withCharger_charger]

/-- Step 2 recalibrates the gauge exactly at entry into FULL (R34). -/
theorem sweepCharger_gauge (t : Nat) : (s.sweepCharger t).1.gauge =
    if s.charger.phase ≠ .full ∧ (s.sweepCharger t).1.charger.phase = .full then (s.gauge.full s.profile.capacity).1
    else s.gauge := by
  rw [sweepCharger_charger]
  simp only [sweepCharger]
  split
  · rw [gaugeFull, countIf_gauge]; rfl
  · rfl

/-- And reports there a span that it rejects. -/
theorem sweepCharger_gaugeCounter (t : Nat) : (s.sweepCharger t).1.fault.gauge =
    if (s.charger.phase ≠ .full ∧ (s.sweepCharger t).1.charger.phase = .full) ∧ (s.gauge.full s.profile.capacity).2 = true
    then s.fault.gauge.bump else s.fault.gauge := by
  rw [sweepCharger_charger]
  simp only [sweepCharger]
  split
  · rename_i full
    rw [gaugeFull, countIf_gaugeCounter _ (.inr rfl)]
    simp only [full, not_false_eq_true, ne_eq, and_self, true_and]
    rfl
  · rename_i other
    rw [if_neg fun h => other h.1]
    rfl

theorem swept_gauge : (s.swept r).gauge =
    if s.EntersFull r then ((s.measured r).1.full s.profile.capacity).1 else (s.measured r).1 := by
  obtain ⟨charger, profile, gauge, -⟩ := sweepGauge_takeReadings r s
  have step := sweepCharger_gauge ((s.takeReadings r).sweepGauge (s.clock - r.lag)) (s.gauge.interval (s.clock - r.lag))
  rwa [charger, profile, gauge] at step

theorem swept_gaugeCounter : (s.swept r).fault.gauge =
    let clipped := if (s.measured r).2 then s.fault.gauge.bump else s.fault.gauge
    if s.EntersFull r ∧ ((s.measured r).1.full s.profile.capacity).2 = true then clipped.bump else clipped := by
  obtain ⟨charger, profile, gauge, counter⟩ := sweepGauge_takeReadings r s
  have step :=
    sweepCharger_gaugeCounter ((s.takeReadings r).sweepGauge (s.clock - r.lag)) (s.gauge.interval (s.clock - r.lag))
  rwa [charger, profile, gauge, counter] at step

variable {r s}

/-- Entry into FULL is from TAPER, on a plausible current that does not discharge (R121). -/
theorem EntersFull.terminates (h : s.EntersFull r) (few : s.charger.termination ≤ 1) : s.charger.phase = .taper ∧
    (s.round.channels.judge s.start.straps.inputFitted r).iCell.plausible = true ∧
      0 ≤ (s.round.channels.judge s.start.straps.inputFitted r).iCell.value := by
  obtain ⟨before, after⟩ := h
  rw [swept, sweepCharger_charger, sweepGauge_charger, sweepGauge_round] at after
  exact Charger.sweep_full few before after

/-- A post in FULL says what step 2 left. -/
theorem swept_full_of_posted (h : (s.sweptContents r).phase = .full) : (s.swept r).charger.phase = .full := by
  rcases sweptContents_phase r s with e | e
  · rw [← e, h]
  · rw [h] at e
    cases e

/-- At entry into FULL the post says FULL, or HOLD_OFF where step 5 latched the station (R171). -/
theorem EntersFull.posted (h : s.EntersFull r) : (s.sweptContents r).phase = .full ∨ (s.sweptContents r).phase = .holdOff :=
  (sweptContents_phase r s).imp_left (·.trans h.2)

end

end State
end Sys2Proof.Machine

open Sys2Proof Sys2Proof.Machine

/-- Settles O16: the gauge a completed sweep leaves is that of its first two steps, the charger's entry into FULL with it. -/
theorem sweepGauge : Obligations.SweepGauge := by
  intro r s flight few
  refine ⟨_, s.sweptContents r, State.exec_sweepComplete flight, by rw [State.completeSweep_round_eq flight], ?_⟩
  rw [State.completeSweep_round_eq flight, State.completeSweep_gauge, State.completeSweep_gaugeCounter, State.sweptContents_q]
  intro v i vHeld iHeld interval plausible discharged noFull top units bounded clamped atBound before overrun span nominal
    learns full clip reject
  have gauge := State.swept_gauge r s
  have counter := State.swept_gaugeCounter r s
  have measured : s.measured r = s.gauge.sweep s.profile.cutoffMv plausible i v (s.clock - r.lag) := by
    rw [← Channel.value_of_held vHeld, ← Channel.value_of_held iHeld]
    rfl
  have startsAnew : before = s.gauge.overrunBefore bounded := (s.gauge.overrunBefore_eq bounded).symm
  have terminates (h : s.EntersFull r) : s.charger.phase = .taper ∧ plausible = true ∧ ¬discharged := by
    obtain ⟨taper, ok, charging⟩ := h.terminates few
    rw [Channel.value_of_held iHeld] at charging
    exact ⟨taper, ok, fun low => absurd low.2 (by omega)⟩
  have leavesTaper (h : s.EntersFull r) : (s.sweptContents r).phase ≠ .taper := by
    rcases h.posted with e | e <;> rw [e] <;> exact nofun
  have integrated (high : ¬discharged) (ok : plausible = true) : (s.measured r).1 =
      { (s.gauge.integrate i interval).1 with previous := some (s.clock - r.lag) } := by
    rw [measured, ok]
    exact Gauge.sweep_plausible _ _ high
  refine ⟨fun low => ?_, fun high suspect no => ?_, fun high ok no => ?_, fun isFull => ?_, fun lasts => ?_⟩
  · rw [gauge, if_neg fun h => (terminates h).2.2 low, measured, Gauge.sweep_discharged _ _ _ _ low]
    exact ⟨rfl, rfl, rfl, rfl, rfl, rfl⟩
  · rw [gauge, if_neg fun h => leavesTaper h (no (terminates h).1), measured, suspect, Gauge.sweep_suspect _ _ high]
    exact s.gauge.skip_fields
  · rw [gauge, if_neg fun h => leavesTaper h (no (terminates h).1), integrated high ok]
    refine ⟨s.gauge.integrate_count i interval, ?_, rfl, rfl, rfl, s.gauge.integrate_residue i interval,
      Gauge.integrate_conserves⟩
    simp only [overrun, startsAnew]
    rfl
  · obtain ⟨entering, entered⟩ : s.charger.phase ≠ .full ∧ (s.sweptContents r).phase = .full := by simpa [full] using isFull
    have enters : s.EntersFull r := ⟨entering, State.swept_full_of_posted entered⟩
    obtain ⟨-, ok, high⟩ := terminates enters
    rw [gauge, if_pos enters, integrated high ok]
    exact ⟨rfl, Nat.mul_comm _ _, rfl, rfl, rfl, rfl, fun pos => Gauge.full_q (Gauge.full_capacity_pos s.start.profile pos)⟩
  · have clips : (s.measured r).2 = clip := by
      rw [measured, Gauge.sweep_clip]
      simp only [clip, overrun, startsAnew, Bool.and_assoc]
      rfl
    have enters : s.EntersFull r ↔ full = true := by
      simp only [full, Bool.and_eq_true, decide_eq_true_eq]
      refine ⟨fun h => ⟨h.1, ?_⟩, fun h => ⟨h.1, State.swept_full_of_posted h.2⟩⟩
      exact (lasts (terminates h).1).resolve_left (leavesTaper h)
    have rejects : (s.EntersFull r ∧ ((s.measured r).1.full s.profile.capacity).2 = true) ↔ reject = true := by
      simp only [reject, Bool.and_assoc, Bool.and_eq_true (a := full), ← enters]
      refine and_congr_right fun h => ?_
      obtain ⟨-, ok, high⟩ := terminates h
      rw [integrated high ok]
      rfl
    rw [counter, clips]
    simp only [rejects]
end

section
/-!
SUPPORT. The allotment (R41 to R54): its stages one by one, each with the bounds it keeps.
-/

namespace Sys2Proof.Machine

/-! ### The figures used and the weights -/

/-- The ranges of a run's figures after stage 0. -/
structure Used.InRange (u : Used) : Prop where
  s : 0 ≤ u.s
  l : 0 ≤ u.l
  q : 0 ≤ u.q ∧ u.q ≤ 1000
  cmax : 0 ≤ u.cmax
  dmax : 0 ≤ u.dmax
  h : 0 ≤ u.h

theorem FigureSet.used_inRange {f : FigureSet} (hq : f.figures.q ≤ 1000) : f.used.InRange := by
  constructor <;> simp only [FigureSet.used]
  case q => omega
  case h => split <;> [split; skip] <;> omega
  all_goals omega

/-- The ceiling of a station (R44). -/
def Used.ceiling (charging : Bool) (u : Used) : Int :=
  if charging then u.cmax else u.dmax

theorem Used.InRange.ceiling {u : Used} (h : u.InRange) (charging : Bool) : 0 ≤ u.ceiling charging := by
  cases charging
  exacts [h.dmax, h.cmax]

theorem weight_nonneg {u : Used} (h : u.InRange) (even charging : Bool) : 0 ≤ weight even charging u := by
  have range := h.q
  simp only [weight]
  split <;> [skip; split <;> [skip; split]] <;> omega

/-- Only a cell that takes nothing has the weight 0 (R44). -/
theorem ceiling_zero_of_weight {u : Used} (h : u.InRange) {even charging : Bool} (zero : weight even charging u = 0) :
    u.ceiling charging = 0 := by
  have nonneg := h.ceiling charging
  have range := h.q
  by_contra pos
  have above : ¬u.ceiling charging ≤ 0 := by omega
  rw [weight, ← Used.ceiling, if_neg above] at zero
  split at zero <;> [skip; split at zero] <;> omega

/-! ### Stages 3 to 5 -/

theorem splitShares_shares {a w1 w2 : Int} (ha : 0 ≤ a) (h1 : 0 ≤ w1) (h2 : 0 ≤ w2) (zero : w1 + w2 = 0 → a = 0) :
    0 ≤ (splitShares a w1 w2).1 ∧ 0 ≤ (splitShares a w1 w2).2.1 ∧
      (splitShares a w1 w2).1 + (splitShares a w1 w2).2.1 = a := by
  simp only [splitShares]
  split
  · rename_i none
    simp [zero none]
  · have pos : 0 < w1 + w2 := by omega
    have part : 0 ≤ a * w1 / (w1 + w2) := Int.ediv_nonneg (mul_nonneg ha h1) pos.le
    have whole : a * w1 / (w1 + w2) ≤ a := Int.ediv_le_of_le_mul pos (by gcongr; omega)
    exact ⟨part, Int.sub_nonneg.mpr whole, add_sub_cancel _ _⟩

theorem fitShares_fit {s1 s2 top1 top2 : Int} (h1 : 0 ≤ s1) (h2 : 0 ≤ s2) (t1 : 0 ≤ top1) (t2 : 0 ≤ top2)
    (room : s1 + s2 ≤ top1 + top2) :
    let r := fitShares s1 s2 top1 top2
    (0 ≤ r.1 ∧ r.1 ≤ top1) ∧ (0 ≤ r.2.1 ∧ r.2.1 ≤ top2) ∧ r.1 + r.2.1 = s1 + s2 := by
  simp only [fitShares]
  omega

/-- The balance shift keeps both cell powers within their bounds, and their sum (R47). -/
theorem balanceShift_within {u1 u2 : Used} {c1 c2 : Int} (apart : 30 < |u1.q - u2.q|) (h1 : -u1.dmax ≤ c1 ∧ c1 ≤ u1.cmax)
    (h2 : -u2.dmax ≤ c2 ∧ c2 ≤ u2.cmax) :
    let r := balanceShift u1 u2 c1 c2
    (-u1.dmax ≤ r.1 ∧ r.1 ≤ u1.cmax) ∧ (-u2.dmax ≤ r.2.1 ∧ r.2.1 ≤ u2.cmax) ∧ r.1 + r.2.1 = c1 + c2 := by
  have wanted : 0 ≤ shiftWanted u1.q u2.q := by simp only [shiftWanted]; omega
  simp only [balanceShift]
  split <;> simp only <;> omega

/-- Power unused is charged to stations that have it to spare, and whole (R48). -/
theorem chargeUnused_charged {u n1 n2 : Int} (h : 0 ≤ u) (le : u ≤ max (n1 + n2) 0) :
    let r := chargeUnused u n1 n2
    (0 ≤ r.1 ∧ r.1 ≤ max n1 0) ∧ (0 ≤ r.2 ∧ r.2 ≤ max n2 0) ∧ r.1 + r.2 = u := by
  simp only [chargeUnused]
  split <;> omega

/-- A shortfall is charged as unused power is, with the signs turned (R48). -/
theorem chargeShortfall_eq (f n1 n2 : Int) : chargeShortfall f n1 n2 = chargeUnused f (-n1) (-n2) := by
  simp only [chargeShortfall, chargeUnused, neg_le_neg_iff]

/-! ### A paired run, stage by stage -/

section
variable (a b : FigureSet)

/-- A station's net, N (R43). -/
def FigureSet.net (f : FigureSet) : Int := f.used.s - f.used.l

/-- Whether T ≥ 0, so that the cells take power (R43). -/
def pairCharges : Bool := decide (0 ≤ a.net + b.net)

/-- A, which stage 3 splits (R43). -/
def pairAmount : Int :=
  min |a.net + b.net| (a.used.ceiling (pairCharges a b) + b.used.ceiling (pairCharges a b))

/-- U (R43). -/
def pairUnused : Int := if pairCharges a b then a.net + b.net - pairAmount a b else 0

/-- F (R43). -/
def pairShort : Int := if pairCharges a b then 0 else -(a.net + b.net) - pairAmount a b

/-- The balance switch of the run. -/
def pairBalances : Bool := a.balance && b.balance

/-- The shares of stage 3, fitted to the ceilings (R44 to R46). -/
def pairFit : Int × Int × Bool :=
  let even := !pairBalances a b || (a.marks.q || b.marks.q)
  let split := splitShares (pairAmount a b) (weight even (pairCharges a b) a.used) (weight even (pairCharges a b) b.used)
  fitShares split.1 split.2.1 (a.used.ceiling (pairCharges a b)) (b.used.ceiling (pairCharges a b))

/-- The cell powers of stage 3, signed. -/
def pairShares : Int × Int :=
  (if pairCharges a b then (pairFit a b).1 else -(pairFit a b).1,
    if pairCharges a b then (pairFit a b).2.1 else -(pairFit a b).2.1)

/-- The cell powers after stage 4 (R47). -/
def pairCells : Int × Int × Bool :=
  if pairBalances a b && !(a.marks.q || b.marks.q) && decide (30 < |a.used.q - b.used.q|) then
    balanceShift a.used b.used (pairShares a b).1 (pairShares a b).2
  else ((pairShares a b).1, (pairShares a b).2, false)

/-- The adjusted nets (R48). -/
def pairAdjusted : Int × Int :=
  (a.net - (chargeUnused (pairUnused a b) a.net b.net).1 + (chargeShortfall (pairShort a b) a.net b.net).1,
    b.net - (chargeUnused (pairUnused a b) a.net b.net).2 + (chargeShortfall (pairShort a b) a.net b.net).2)

/-- X of the first station before the hinge bound (R49). -/
def pairLink : Int := (pairAdjusted a b).1 - (pairCells a b).1

/-- X of the first station (R50). -/
def pairBounded : Int := boundLink (pairLink a b) (min a.used.h b.used.h)

/-- One station's part of a run, with U and F charged to it, its link, and its cell power before the settle (R51, R52). -/
def settledPart (u : Used) (unused short x c : Int) : Allotted :=
  { setting := { g := u.s - unused - (settleCell u c).2.1, c := (settleCell u c).1, x := x }
    shortfall := short + (settleCell u c).2.2 }

theorem pairedRun_first : (pairedRun a b).first =
    settledPart a.used (chargeUnused (pairUnused a b) a.net b.net).1 (chargeShortfall (pairShort a b) a.net b.net).1
      (pairBounded a b)
      (if pairBounded a b = pairLink a b then (pairCells a b).1 else (pairAdjusted a b).1 - pairBounded a b) := rfl

theorem pairedRun_second : (pairedRun a b).second =
    settledPart b.used (chargeUnused (pairUnused a b) a.net b.net).2 (chargeShortfall (pairShort a b) a.net b.net).2
      (-pairBounded a b)
      (if pairBounded a b = pairLink a b then (pairCells a b).2.1 else (pairAdjusted a b).2 + pairBounded a b) := rfl

variable {a b}

theorem pairAmount_placed (ha : a.used.InRange) (hb : b.used.InRange) :
    0 ≤ pairAmount a b ∧ 0 ≤ pairUnused a b ∧ pairUnused a b ≤ max (a.net + b.net) 0 ∧
      0 ≤ pairShort a b ∧ pairShort a b ≤ max (-a.net + -b.net) 0 ∧
      a.net + b.net - pairUnused a b + pairShort a b = if pairCharges a b then pairAmount a b else -pairAmount a b := by
  have ta := ha.ceiling (pairCharges a b)
  have tb := hb.ceiling (pairCharges a b)
  simp only [pairUnused, pairShort, pairAmount]
  by_cases surplus : 0 ≤ a.net + b.net
  · rw [show pairCharges a b = true from decide_eq_true surplus] at ta tb ⊢
    simp only [abs_of_nonneg surplus, if_true]
    omega
  · rw [show pairCharges a b = false from decide_eq_false surplus] at ta tb ⊢
    simp only [abs_of_neg (not_le.mp surplus), Bool.false_eq_true, if_false]
    omega

/-- The fitted shares lie within the ceilings and make up the amount (R45, R46). -/
theorem pairFit_fits (ha : a.used.InRange) (hb : b.used.InRange) :
    (0 ≤ (pairFit a b).1 ∧ (pairFit a b).1 ≤ a.used.ceiling (pairCharges a b)) ∧
      (0 ≤ (pairFit a b).2.1 ∧ (pairFit a b).2.1 ≤ b.used.ceiling (pairCharges a b)) ∧
      (pairFit a b).1 + (pairFit a b).2.1 = pairAmount a b := by
  have ta := ha.ceiling (pairCharges a b)
  have tb := hb.ceiling (pairCharges a b)
  obtain ⟨nonneg, -⟩ := pairAmount_placed ha hb
  have le : pairAmount a b ≤ a.used.ceiling (pairCharges a b) + b.used.ceiling (pairCharges a b) := min_le_right _ _
  let even := !pairBalances a b || (a.marks.q || b.marks.q)
  have wa := weight_nonneg ha even (pairCharges a b)
  have wb := weight_nonneg hb even (pairCharges a b)
  have zero (none : weight even (pairCharges a b) a.used + weight even (pairCharges a b) b.used = 0) :
      pairAmount a b = 0 := by
    have topA := ceiling_zero_of_weight ha (even := even) (charging := pairCharges a b) (by omega)
    have topB := ceiling_zero_of_weight hb (even := even) (charging := pairCharges a b) (by omega)
    omega
  obtain ⟨s1, s2, sum⟩ := splitShares_shares nonneg wa wb zero
  obtain ⟨fit1, fit2, same⟩ := fitShares_fit s1 s2 ta tb (by omega)
  exact ⟨fit1, fit2, same.trans sum⟩

/-- The cell powers of stage 4 lie within their bounds and make up the adjusted nets (R46 to R48). -/
theorem pairCells_within (ha : a.used.InRange) (hb : b.used.InRange) :
    (-a.used.dmax ≤ (pairCells a b).1 ∧ (pairCells a b).1 ≤ a.used.cmax) ∧
      (-b.used.dmax ≤ (pairCells a b).2.1 ∧ (pairCells a b).2.1 ≤ b.used.cmax) ∧
      (pairCells a b).1 + (pairCells a b).2.1 = a.net + b.net - pairUnused a b + pairShort a b := by
  obtain ⟨-, -, -, -, -, total⟩ := pairAmount_placed ha hb
  have shares : (-a.used.dmax ≤ (pairShares a b).1 ∧ (pairShares a b).1 ≤ a.used.cmax) ∧
      (-b.used.dmax ≤ (pairShares a b).2 ∧ (pairShares a b).2 ≤ b.used.cmax) ∧
      (pairShares a b).1 + (pairShares a b).2 = a.net + b.net - pairUnused a b + pairShort a b := by
    obtain ⟨fitA, fitB, sum⟩ := pairFit_fits ha hb
    have := ha.cmax
    have := ha.dmax
    have := hb.cmax
    have := hb.dmax
    rw [total]
    cases h : pairCharges a b <;>
      simp only [pairShares, Used.ceiling, h, if_true, if_false, Bool.false_eq_true] at * <;> omega
  obtain ⟨shareA, shareB, sum⟩ := shares
  simp only [pairCells]
  split
  · rename_i shifts
    simp only [Bool.and_eq_true, decide_eq_true_eq] at shifts
    obtain ⟨stillA, stillB, same⟩ := balanceShift_within shifts.2 shareA shareB
    exact ⟨stillA, stillB, same.trans sum⟩
  · exact ⟨shareA, shareB, sum⟩

end

/-! ### One station's result -/

/-- The bounds of R54 on one station's part, and its balance (R52). -/
def Allotted.Within (u : Used) (r : Allotted) : Prop :=
  -u.dmax ≤ r.setting.c ∧ r.setting.c ≤ u.cmax ∧ 0 ≤ r.setting.g ∧ r.setting.g ≤ u.s ∧
    r.setting.g + r.shortfall = u.l + r.setting.c + r.setting.x ∧ 0 ≤ r.shortfall

/-- A part that the local settle leaves lies within the bounds: power left over by the cell comes from the station's own
supply, since it is left over only where the link has been lowered while sending (R51). -/
theorem settledPart_within {u : Used} {unused short x c : Int} (h : u.InRange)
    (hu : 0 ≤ unused ∧ unused ≤ max (u.s - u.l) 0) (hs : 0 ≤ short ∧ short ≤ max (-(u.s - u.l)) 0)
    (balance : c = u.s - u.l - unused + short - x) (excess : u.cmax < c → 0 ≤ x) :
    (settledPart u unused short x c).Within u := by
  have hs' := h.s
  have hl := h.l
  have hc := h.cmax
  have hd := h.dmax
  simp only [Allotted.Within, settledPart, settleCell]
  split
  · rename_i above
    have := excess above
    and_intros <;> simp only <;> omega
  · split <;> and_intros <;> simp only <;> omega

/-- The hinge bound lowers a link to at most the bound, and keeps its sign (R50). -/
theorem boundLink_cases (x : Int) {h : Int} (nonneg : 0 ≤ h) : |boundLink x h| ≤ h ∧
    (boundLink x h = x ∨ (0 ≤ boundLink x h ∧ boundLink x h < x) ∨ (boundLink x h ≤ 0 ∧ x < boundLink x h)) := by
  simp only [boundLink, abs_le]
  split <;> [skip; split] <;> omega

section
variable {a b : FigureSet} (ha : a.used.InRange) (hb : b.used.InRange)
include ha hb

theorem pairBounded_cases : |pairBounded a b| ≤ min a.used.h b.used.h ∧
    (pairBounded a b = pairLink a b ∨ (0 ≤ pairBounded a b ∧ pairBounded a b < pairLink a b) ∨
      (pairBounded a b ≤ 0 ∧ pairLink a b < pairBounded a b)) :=
  boundLink_cases _ (le_min ha.h hb.h)

/-- What is charged to the stations: no more than each has to spare, or lacks (R48). -/
theorem pairCharged :
    let us := chargeUnused (pairUnused a b) a.net b.net
    let fs := chargeShortfall (pairShort a b) a.net b.net
    ((0 ≤ us.1 ∧ us.1 ≤ max a.net 0) ∧ (0 ≤ us.2 ∧ us.2 ≤ max b.net 0) ∧ us.1 + us.2 = pairUnused a b) ∧
      (0 ≤ fs.1 ∧ fs.1 ≤ max (-a.net) 0) ∧ (0 ≤ fs.2 ∧ fs.2 ≤ max (-b.net) 0) ∧ fs.1 + fs.2 = pairShort a b := by
  obtain ⟨-, unused, unusedLe, short, shortLe, -⟩ := pairAmount_placed ha hb
  rw [chargeShortfall_eq]
  exact ⟨chargeUnused_charged unused unusedLe, chargeUnused_charged short shortLe⟩

theorem pairedRun_first_within : (pairedRun a b).first.Within a.used := by
  obtain ⟨⟨us, -, -⟩, fs, -, -⟩ := pairCharged ha hb
  obtain ⟨cell, -, -⟩ := pairCells_within ha hb
  obtain ⟨-, bounded⟩ := pairBounded_cases ha hb
  have link : pairLink a b = (pairAdjusted a b).1 - (pairCells a b).1 := rfl
  have asAdjusted : (if pairBounded a b = pairLink a b then (pairCells a b).1 else (pairAdjusted a b).1 - pairBounded a b) =
      (pairAdjusted a b).1 - pairBounded a b := by
    split <;> omega
  rw [pairedRun_first, asAdjusted]
  exact settledPart_within ha us fs rfl (by omega)

theorem pairedRun_second_within : (pairedRun a b).second.Within b.used := by
  obtain ⟨⟨-, us, unused⟩, -, fs, short⟩ := pairCharged ha hb
  obtain ⟨-, cell, total⟩ := pairCells_within ha hb
  obtain ⟨-, bounded⟩ := pairBounded_cases ha hb
  have link : pairLink a b = (pairAdjusted a b).1 - (pairCells a b).1 := rfl
  have adjusted : (pairAdjusted a b).1 + (pairAdjusted a b).2 = a.net + b.net - pairUnused a b + pairShort a b := by
    simp only [pairAdjusted]
    omega
  have asAdjusted :
      (if pairBounded a b = pairLink a b then (pairCells a b).2.1 else (pairAdjusted a b).2 + pairBounded a b) =
        (pairAdjusted a b).2 - -pairBounded a b := by
    split <;> omega
  rw [pairedRun_second, asAdjusted]
  exact settledPart_within hb us fs rfl (by omega)

end

theorem soloRun_within {a : FigureSet} (ha : a.used.InRange) : (soloRun a).1.Within a.used := by
  have := ha.s
  have := ha.l
  have := ha.cmax
  have := ha.dmax
  simp only [Allotted.Within, soloRun]
  split <;> omega

/-! ### Both stations' runs -/

theorem runWith_lower {a b : FigureSet} (h : a.address < b.address) :
    runWith a b = ((pairedRun a b).first, (pairedRun a b).flags) := if_pos h

theorem runWith_upper {a b : FigureSet} (h : a.address < b.address) :
    runWith b a = ((pairedRun a b).second, (pairedRun a b).flags) := if_neg (Nat.not_lt.mpr h.le)

theorem pairedRun_opposite (a b : FigureSet) :
    (pairedRun a b).first.setting.x = -(pairedRun a b).second.setting.x := (neg_neg _).symm

end Sys2Proof.Machine

open Sys2Proof Sys2Proof.Machine

/-- Settles O51: the stages keep the bounds one by one, and the local settle closes each station's balance. -/
theorem allotmentBounds : Obligations.AllotmentBounds := by
  intro a b hqa hqb within p
  have ha := FigureSet.used_inRange hqa
  have hb := FigureSet.used_inRange hqb
  exact ⟨pairedRun_opposite a b, (pairBounded_cases ha hb).1, pairedRun_first_within ha hb, pairedRun_second_within ha hb,
    soloRun_within ha, rfl⟩

/-- Settles O52: the station of the lower address is first in both stations' runs. -/
theorem stationsAgree : Obligations.StationsAgree := by
  intro a b h
  rw [runWith_lower h, runWith_upper h]
  exact ⟨rfl, rfl, pairedRun_opposite a b, rfl⟩
end

section
/-!
SUPPORT. Current limits (R60) and the charge handed to the charger (R120).
-/

namespace Sys2Proof.Machine

/-! ### A power as a current limit -/

theorem limitAt_held {v : Nat} (power : Nat) (h : 1000 ≤ v) : limitAt ⟨true, some (v : Int)⟩ power = power * 1000 / v := by
  have reads : ¬(v : Int) < 1000 := by omega
  simp [limitAt, Channel.value, reads]

theorem limitAt_zero {c : Channel} (power : Nat) (h : c.plausible = false ∨ c.value < 1000) : limitAt c power = 0 := by
  rcases h with h | h <;> simp [limitAt, h]

/-- A current limit is the largest that stays within its power at the voltage (R60). -/
theorem limit_within {v : Nat} (power : Nat) (h : 0 < v) :
    power * 1000 / v * v ≤ power * 1000 ∧ power * 1000 < (power * 1000 / v + 1) * v :=
  ⟨Nat.div_mul_le_self _ _, Nat.lt_mul_of_div_lt (Nat.lt_succ_self _) h⟩

theorem State.chargeLimitOf_held {v : Nat} (c : Nat) {s : State} (h : s.round.channels.vCell.held = some (v : Int)) :
    s.chargeLimitOf c = c * 1000 / v := by
  rw [chargeLimitOf, Channel.value_of_held h, Int.toNat_natCast]

/-! ### The charger takes a charge -/

/-- Whether charging is permitted, written out (R115, R117). -/
theorem Charger.permitted_iff (st : StationState) (c : Charger) : c.permitted st = true ↔
    (c.band = some .from0To10 ∨ c.band = some .from10To45 ∨ c.band = some .from45To55) ∧ c.ceilingHolds = true ∧
      c.timeoutHeld = false ∧ (st = .solo ∨ st = .paired ∨ st = .mute) := by
  have bands : 0 < chargeFactor c.band ↔
      c.band = some .from0To10 ∨ c.band = some .from10To45 ∨ c.band = some .from45To55 := by
    rcases c.band with _ | b
    · simp [chargeFactor]
    · cases b <;> simp [chargeFactor]
  have stations : stationCharges st = true ↔ st = .solo ∨ st = .paired ∨ st = .mute := by
    cases st <;> simp [stationCharges]
  simp only [Charger.permitted, Bool.and_eq_true, decide_eq_true_eq, bands, stations, Bool.not_eq_true']
  tauto

/-- The charge and its limit are stored whatever the hand-over does to the phase (R120). -/
theorem Charger.hand_stores (st : StationState) (v : Int) (p ma : Nat) (c : Charger) :
    c.hand st v p ma = { c.hand st v p ma with setpoint := p, limitMa := ma } := by
  obtain ⟨setpoint, limit, -⟩ := c.hand_setpoint st v p ma
  generalize c.hand st v p ma = d at setpoint limit ⊢
  rw [← setpoint, ← limit]

section
variable (st : StationState) (v : Int) (p ma : Nat) {c : Charger}

/-- A rise from 0 leads a charger in HOLD_OFF that may charge out of it (R120). -/
theorem Charger.hand_rise (rise : c.setpoint = 0 ∧ 0 < p) (may : c.phase = .holdOff ∧ c.permitted st = true) :
    c.hand st v p ma = { c with setpoint := p, limitMa := ma }.leaveHoldOff v := by
  simp only [Charger.hand, if_pos rise, if_pos may]

/-- A fall to 0 leads a charging phase to HOLD_OFF (R120). -/
theorem Charger.hand_fall (fall : 0 < c.setpoint ∧ p = 0)
    (charges : c.phase = .precharge ∨ c.phase = .bulk ∨ c.phase = .taper) :
    c.hand st v p ma = { c with setpoint := p, limitMa := ma }.enterHoldOff := by
  have noRise : ¬(c.setpoint = 0 ∧ 0 < p) := by omega
  simp only [Charger.hand, if_neg noRise, if_pos fall]
  rcases charges with h | h | h <;> rw [h]

/-- Any other hand-over is stored (R120). -/
theorem Charger.hand_stored (noRise : ¬((c.setpoint = 0 ∧ 0 < p) ∧ c.phase = .holdOff ∧ c.permitted st = true))
    (noFall : ¬((0 < c.setpoint ∧ p = 0) ∧ (c.phase = .precharge ∨ c.phase = .bulk ∨ c.phase = .taper))) :
    c.hand st v p ma = { c with setpoint := p, limitMa := ma } := by
  simp only [Charger.hand]
  split
  · rename_i rise
    rw [if_neg fun may => noRise ⟨rise, may⟩]
  · split
    · rename_i fall
      cases h : c.phase <;> simp [fall, h] at noFall ⊢
    · rfl

end

namespace State

/-- A changed charge is handed with its limit at the held V_cell; one that is no change is not (R60, R120). -/
theorem setCharge_changed {charge : Nat} {s : State} (h : charge ≠ s.apply.charge) :
    s.setCharge charge = { s with
      apply := { s.apply with charge := charge, chargeMa := s.chargeLimitOf charge }
      charger := s.charger.hand s.station.state s.round.channels.vCell.value charge (s.chargeLimitOf charge) } := by
  rw [setCharge, if_neg h.symm]
  rfl

theorem setCharge_same {charge : Nat} {s : State} (h : charge = s.apply.charge) : s.setCharge charge = s := by
  rw [setCharge, if_pos h.symm]

/-- What a charge leaves at the charger depends on the charger, the charge applied before, V_cell and the station state. -/
theorem setCharge_charger_congr {s t : State} (charge : Nat) (charger : t.charger = s.charger)
    (before : t.apply.charge = s.apply.charge) (channels : t.round.channels = s.round.channels)
    (station : t.station.state = s.station.state) : (t.setCharge charge).charger = (s.setCharge charge).charger := by
  by_cases h : charge = s.apply.charge
  · rw [setCharge_same h, setCharge_same (h.trans before.symm), charger]
  · rw [setCharge_changed h, setCharge_changed (before ▸ h)]
    simp only [chargeLimitOf, charger, channels, station]

/-- The post sent hands the charge that it applies (R66). -/
theorem takeSent_charger (p : Setting) (s : State) :
    (s.takeSent p).charger = (s.setCharge (s.takeSent p).apply.charge).charger := by
  obtain ⟨-, -, -, charge, -⟩ := takeSent_apply p s
  rw [charge]
  by_cases latched : s.station.state = .latched
  · simp only [takeSent, setDraw_station, withApply_station, if_pos latched, judgeLink_charger, setDraw_charger,
      withApply_charger]
    rw [setCharge_same rfl]
  · simp only [takeSent, setDraw_station, withApply_station, if_neg latched, judgeLink_charger]
    rw [setDraw_eq]
    exact setCharge_charger_congr _ rfl rfl rfl rfl

theorem sent_charger (q : Queued OwnState) (s : State) :
    (s.sent q).charger = (s.setCharge (s.sent q).apply.charge).charger :=
  (takeSent_charger q.post.contents.setting (s.posting q)).trans (setCharge_charger_congr _ rfl rfl rfl rfl)

theorem settleShelf_charge (vIn : Nat) (s : State) : (s.settleShelf vIn).apply.charge = s.apply.charge := by
  rcases s.settleShelf_cases vIn with ⟨-, -, -, e⟩ | e <;> rw [e]
  rfl

end State

end Sys2Proof.Machine

open Sys2Proof Sys2Proof.Machine

/-- Settles O49: each limit is a division rounded down, and below 1000 mV or at a suspect channel it is 0. -/
theorem limitsWithinPower : Obligations.LimitsWithinPower := by
  intro s g c x
  refine ⟨min_le_left _ _, fun v held hv => ?_, fun v held hv => ?_, fun v held hv => ?_, fun h => ?_, fun h => ?_⟩
  · obtain ⟨le, lt⟩ := limit_within g (v := v) (by omega)
    rw [State.drawLimitOf, held, limitAt_held g hv]
    refine ⟨(Nat.mul_le_mul_right v (min_le_right _ _)).trans le, fun below => ?_⟩
    rwa [min_eq_right (by omega)]
  · rw [State.chargeLimitOf_held c held]
    exact limit_within c (by omega)
  · rw [State.linkLimitOf, held, limitAt_held _ hv]
    exact limit_within _ (by omega)
  · rw [State.drawLimitOf, limitAt_zero g h, Nat.min_zero]
  · exact limitAt_zero _ h

/-- Settles O33: the hand-over by the three cases of R120, and OWN_STATE_SENT as the hand-over of the charge it applies. -/
theorem chargerHandOver : Obligations.ChargerHandOver := by
  refine ⟨fun charge v s held => ?_, fun q vIn s on awake sending state => ?_⟩
  · intro t from0 permitted rises falls
    refine ⟨State.setCharge_same, fun changed => ?_⟩
    have handed : t = { s with
        apply := { s.apply with charge := charge, chargeMa := charge * 1000 / v }
        charger := s.charger.hand s.station.state v charge (charge * 1000 / v) } := by
      simp only [t, State.setCharge_changed changed, State.chargeLimitOf_held charge held, Channel.value_of_held held]
    have may : s.charger.permitted s.station.state = true ↔ permitted := s.charger.permitted_iff _
    refine ⟨?_, fun rise => ?_, fun fall => ?_, fun noRise noFall => ?_⟩
    · rw [handed]
      congr 1
      exact s.charger.hand_stores s.station.state v charge (charge * 1000 / v)
    · obtain ⟨zero, pos, holds, allowed⟩ := rise
      rw [handed, Charger.hand_rise _ _ _ _ ⟨zero, pos⟩ ⟨holds, may.mpr allowed⟩]
      simp only [Charger.leaveHoldOff, prechargeMv, Nat.cast_lt]
    · obtain ⟨pos, zero, charges⟩ := fall
      rw [handed, Charger.hand_fall _ _ _ _ ⟨pos, zero⟩ charges]
      rfl
    · rw [handed, Charger.hand_stored _ _ _ _ (fun h => noRise ⟨h.1.1, h.1.2, h.2.1, may.mp h.2.2⟩)
        (fun h => noFall ⟨h.1.1, h.1.2, h.2⟩)]
  · refine ⟨(s.ownStateSent q).settleShelf vIn, by simp [exec, execOwnStateSent, sending, state], ?_⟩
    rw [State.settleShelf_charge, State.settleShelf_charger, State.ownStateSent_eq, State.releaseHeld_charger,
      State.releaseHeld_apply]
    exact State.sent_charger q s
end

section
/-!
SUPPORT. The QUERY items that act (R56, R170, R173, R174, R179, R180).
-/

namespace Sys2Proof.Machine

/-- The bits of READ_FLAGS as a sum of the flags' weights (R181). -/
theorem OutcomeFlags.byte_eq (f : OutcomeFlags) : f.byte =
    BitVec.ofNat 8 ((if f.shortfall then 32 else 0) + (if f.unordered then 16 else 0) + (if f.clampHinge then 8 else 0) +
      (if f.clampCell then 4 else 0) + (if f.unused then 2 else 0) + (if f.inexact then 1 else 0)) := by
  have bits : ∀ a b c d e g : Bool, byteOfBits false false a b c d e g =
      BitVec.ofNat 8 ((if a then 32 else 0) + (if b then 16 else 0) + (if c then 8 else 0) + (if d then 4 else 0) +
        (if e then 2 else 0) + (if g then 1 else 0)) := by decide
  exact bits _ _ _ _ _ _

/-- The classes that byte 3 names (R180). -/
theorem classOfArgument_named {argument : Byte} {k : Class}
    (h : (argument = 1 ∧ k = .degraded) ∨ (argument = 2 ∧ k = .halting)) : classOfArgument argument = some k := by
  rcases h with ⟨rfl, rfl⟩ | ⟨rfl, rfl⟩ <;> rfl

namespace State

/-- Where a REPLY goes: into a queue of fewer than four, lost with TX_DROP at a full one, and nowhere in MUTE (R137, R140). -/
theorem handReply_receiving (r : ReplyContents) {s : State} (on : s.receiving = true) : s.handReply r = { s with
    line := { s.line with
      replies := if s.station.state ≠ .mute ∧ s.line.waiting < 4 then s.line.replies ++ [⟨r, 0⟩] else s.line.replies }
    fault := if s.station.state ≠ .mute ∧ 4 ≤ s.line.waiting then { s.fault with line := s.fault.line.bump }
      else s.fault } := by
  by_cases mute : s.station.state = .mute
  · have closed : s.queueOpen = false := by simp [queueOpen, mute]
    rw [handReply_closed r s closed]
    simp [mute]
  · have open_ : s.queueOpen = true := (queueOpen_iff s).mpr ⟨on, mute⟩
    rcases s.line.takeReply_cases r with ⟨room, e⟩ | ⟨full, e⟩
    · rw [if_pos ⟨mute, room⟩, if_neg fun h => absurd h.2 (not_le.mpr room)]
      simp only [handReply, if_pos open_, e]
      rfl
    · rw [if_neg fun h => absurd h.2 (not_lt.mpr full), if_pos ⟨mute, full⟩]
      simp only [handReply, if_pos open_, e]
      rfl

/-- A QUERY taken: its item acts on the state after the reception, and its REPLY is handed (R179). -/
theorem takeQuery_taken {target : Byte} {act : State → State × ReplyContents} {s : State} (on : s.receiving = true)
    (toUs : target.toNat = s.start.straps.address.toNat ∨ target = 7) (few : s.line.replies.length < 2) :
    s.takeQuery target act = (act s.endReception).1.handReply (act s.endReception).2 := by
  have addressed := addressed_of toUs
  rcases takeQuery_cases target act s on with ⟨no, -⟩ | ⟨-, two, -⟩ | ⟨-, -, e⟩
  · simp [addressed] at no
  · omega
  · exact e

end State

end Sys2Proof.Machine

open Sys2Proof Sys2Proof.Machine

/-- Settles O28: each item acts, and its REPLY is handed as any is. -/
theorem actingQueries : Obligations.ActingQueries := by
  intro target argument k s on toUs few named zeros a weight flags answered dropped
  have taken (act : State → State × ReplyContents) (kept : (act s.endReception).1.receiving = s.receiving) :
      s.takeQuery target act = _ :=
    (State.takeQuery_taken on toUs few).trans (State.handReply_receiving _ (kept.trans on))
  have class_ := classOfArgument_named named
  refine ⟨?_, ?_, ?_, ?_⟩
  · refine congrArg Host.Outcome.next ((taken State.itemReadFlags rfl).trans ?_)
    simp only [State.itemReadFlags, flagsContent, s.endReception.accrued.byte_eq]
    rfl
  · refine congrArg Host.Outcome.next ((taken (State.itemClearLog argument) ?_).trans ?_) <;>
      simp only [State.itemClearLog, classItem, class_]
    · rfl
    · cases k <;> rfl
  · exact congrArg Host.Outcome.next (taken State.itemClearCounters rfl)
  · exact congrArg Host.Outcome.next (taken State.itemAckPin rfl)
end

section
/-!
SUPPORT. The partner's arrival (R39, R65, R68, R153).
-/

namespace Sys2Proof.Machine

theorem stationOfCode_composed {b : Byte} (h : 1 ≤ b.toNat ∧ b.toNat ≤ 4) : ∃ st, stationOfCode b = some st := by
  obtain h | h | h | h : b.toNat = 1 ∨ b.toNat = 2 ∨ b.toNat = 3 ∨ b.toNat = 4 := by omega
  all_goals simp [stationOfCode, h]

/-- A station with a partner has no crowd (R155). -/
theorem qualifying_of_partner {es : List Entry} {e : Entry} (h : partnerOf es = some e) : qualifying es = 1 := by
  simp only [partnerOf] at h
  split at h
  · rename_i only
    simp [qualifying, only]
  · cases h

namespace State

/-! ### The entry taken -/

/-- Where there is a partner, the partner judgement neither logs CROWD nor lowers the link (R155, R73). -/
theorem judgePartner_partnered {s : State} {e : Entry} (h : s.partner = some e) :
    s.judgePartner.line = s.line ∧ s.judgePartner.apply = s.apply := by
  have few : ¬2 ≤ qualifying s.peers := by rw [qualifying_of_partner h]; omega
  have crowdless : s.judgeCrowd = s.withStation { s.station with crowd := false } := if_neg few
  have partner : s.judgeCrowd.partner = some e := by rw [crowdless]; exact h
  simp only [judgePartner, partner, reduceCtorEq, and_false, if_false]
  rw [crowdless]
  split <;> simp [enterPaired]

theorem takeEntry_partnered {source : BitVec 3} {post : StatePost} {st : StationState} {s : State} {e : Entry}
    (h : (s.takeEntry source post st).partner = some e) :
    (s.takeEntry source post st).line = s.line ∧ (s.takeEntry source post st).apply = s.apply := by
  simp only [takeEntry] at h ⊢
  obtain ⟨line, apply⟩ := judgePartner_partnered ((congrArg partnerOf (judgePartner_peers _)).symm.trans h)
  exact ⟨line.trans (countIf_line _ _ _), apply.trans (countIf_apply _ _ _)⟩

theorem takeEntry_composed (source : BitVec 3) (post : StatePost) (st : StationState) (s : State) :
    (s.takeEntry source post st).round.composed = s.round.composed := by
  simp only [takeEntry]
  rw [judgePartner_round]
  simp

theorem exec_stateArrival {source : BitVec 3} (post : StatePost) (vIn : Nat) {s : State} (on : s.receiving = true)
    (other : source ≠ s.start.straps.address) (notPolicy : source ≠ 7) :
    exec (.stateArrival source post vIn) s = .next ((s.endReception.takeArrival source post).settleShelf vIn) := by
  simp only [exec, execStateArrival, on, if_neg other, if_neg notPolicy, Bool.not_true, Bool.false_eq_true, if_false]

/-- The arrival of a post that leaves its sender the partner is served by the apply unit (R68). -/
theorem takeArrival_served {source : BitVec 3} {post : StatePost} {st : StationState} {s : State}
    (named : stationOfCode post.station = some st) (fields : fieldsComposable post = true)
    (partner : (s.takeArrival source post).partner.map Entry.address = some source) :
    (s.takeEntry source post st).partner.map Entry.address = some source ∧
      s.takeArrival source post = (s.takeEntry source post st).serveArrival := by
  simp only [takeArrival, named, fields, if_true] at partner ⊢
  have same : (s.takeEntry source post st).serveArrival.partner = (s.takeEntry source post st).partner :=
    congrArg partnerOf (serveArrival_peers _)
  have taken : (s.takeEntry source post st).partner.map Entry.address = some source := by
    split at partner
    exacts [same ▸ partner, partner]
  exact ⟨taken, if_pos (by simp [servedArrival, taken])⟩

/-! ### The own post served (R65) -/

section
variable (r : Setting) (code : Nat) (s : State)

theorem servePost_round : (s.servePost r code).round = { s.round with held := (s.servePost r code).round.held } := by
  simp only [servePost]
  split
  · rfl
  · split <;> rfl

theorem servePost_apply :
    (s.servePost r code).apply = { s.apply with rewritePending := (s.servePost r code).apply.rewritePending } := by
  simp only [servePost]
  split
  · rfl
  · split <;> rfl

variable {s}

theorem servePost_waiting {q : Queued OwnState} (state : s.line.state = some q) (idle : s.line.sending ≠ some .state) :
    (s.servePost r code).line = { s.line with state := some { q with post := q.post.rewritten r code } } := by
  simp [servePost, state, idle]

theorem servePost_sending (state : s.line.state ≠ none) (sending : s.line.sending = some .state) :
    (s.servePost r code).apply.rewritePending = true ∧ (s.servePost r code).line = s.line := by
  obtain ⟨q, state⟩ := Option.ne_none_iff_exists'.mp state
  simp [servePost, state, sending]

end

/-! ### The arrival run (R39) -/

theorem run_paired {s : State} {e : Entry} (own : FigureSet) (paired : s.station.state = .paired)
    (partner : s.partner = some e) : s.run own = runWith own e.figureSet := by
  simp [run, paired, partner]

theorem composedSet_congr {s t : State} (c : StateContents) (start : t.start = s.start)
    (lastL : t.round.lastL = s.round.lastL) : t.composedSet c = s.composedSet c := by
  simp only [composedSet, start, lastL]

/-- The proposal of a run replaced and its flags added, before the own post is served. -/
def runReplaced (run : Allotted × OutcomeFlags) (s : State) : State :=
  (s.replaceProposal run.1.setting run.2.code).accrue run.2

theorem runReplaced_line (run : Allotted × OutcomeFlags) (s : State) : (s.runReplaced run).line = s.line :=
  replaceProposal_line _ _ _

theorem runReplaced_round (run : Allotted × OutcomeFlags) (s : State) : (s.runReplaced run).round = s.round :=
  replaceProposal_round _ _ _

theorem runReplaced_accrued (run : Allotted × OutcomeFlags) (s : State) :
    (s.runReplaced run).accrued = s.accrued.add run.2 :=
  congrArg (OutcomeFlags.add · run.2) (replaceProposal_accrued _ _ _)

theorem arrivalRun_eq (c : StateContents) (s : State) :
    let run := s.run (s.composedSet c)
    s.arrivalRun c =
      ((s.runReplaced run).servePost run.1.setting run.2.code).countIf run.2.unordered .allotUnordered := rfl

/-- What an arrival run leaves of proposal, code, flags, hold and own figures (R39, R56, R62). -/
theorem arrivalRun_proposal (c : StateContents) (s : State) :
    let run := s.run (s.composedSet c)
    let t := s.arrivalRun c
    t.apply.proposal = run.1.setting ∧ t.apply.code = run.2.code ∧ t.accrued = s.accrued.add run.2 ∧
      t.apply.unansweredHold = s.apply.unansweredHold ∧ t.round.lastL = s.round.lastL := by
  intro run t
  obtain ⟨proposal, code, -, -, -, -, hold, -⟩ := replaceProposal_apply run.1.setting run.2.code s
  simp only [t, arrivalRun_eq, countIf_apply, countIf_accrued, countIf_round, servePost_accrued]
  rw [servePost_apply, servePost_round, runReplaced_round]
  exact ⟨proposal, code, runReplaced_accrued _ _, hold, rfl⟩

theorem arrivalRun_waiting (c : StateContents) {s : State} {q : Queued OwnState} (state : s.line.state = some q)
    (idle : s.line.sending ≠ some .state) :
    (s.arrivalRun c).line.state = some { q with
      post := q.post.rewritten (s.run (s.composedSet c)).1.setting (s.run (s.composedSet c)).2.code } := by
  rw [arrivalRun_eq, countIf_line, servePost_waiting _ _ (by rwa [runReplaced_line]) (by rwa [runReplaced_line])]

theorem arrivalRun_sending (c : StateContents) {s : State} (state : s.line.state ≠ none)
    (sending : s.line.sending = some .state) :
    (s.arrivalRun c).apply.rewritePending = true ∧ (s.arrivalRun c).line = s.line := by
  rw [arrivalRun_eq, countIf_apply, countIf_line]
  obtain ⟨pending, line⟩ := servePost_sending (s.run (s.composedSet c)).1.setting (s.run (s.composedSet c)).2.code
    (s := s.runReplaced (s.run (s.composedSet c))) (by rwa [runReplaced_line]) (by rwa [runReplaced_line])
  exact ⟨pending, line.trans (runReplaced_line _ _)⟩

/-! ### The arrival served (R68) -/

/-- The unanswered hold cleared, before the arrival run. -/
def freed (s : State) : State :=
  s.withApply { s.apply with unansweredHold := false }

theorem serveArrival_eq (s : State) : s.serveArrival = s.freed.arrivalRunIfDue.judgeLink := rfl

theorem serveArrival_judged (s : State) : s.serveArrival.apply.link = s.serveArrival.judgedLink := by
  rw [serveArrival_eq, judgeLink_link, judgeLink_judgedLink]

/-- The final judgement moves the applied link alone. -/
theorem serveArrival_apply (s : State) : s.serveArrival.apply = { s.freed.arrivalRunIfDue.apply with
    link := s.serveArrival.apply.link, linkMa := s.serveArrival.apply.linkMa } := by
  simp only [serveArrival_eq]
  rw [judgeLink_eq]

theorem arrivalRunIfDue_none {s : State} (none : s.round.composed = none) : s.arrivalRunIfDue = s := by
  simp [arrivalRunIfDue, none]

theorem arrivalRunIfDue_due {s : State} {c : StateContents} (composed : s.round.composed = some c)
    (paired : s.station.state = .paired) : s.arrivalRunIfDue = s.arrivalRun c := by
  simp [arrivalRunIfDue, composed, paired]

theorem arrivalRunIfDue_hold (s : State) : s.arrivalRunIfDue.apply.unansweredHold = s.apply.unansweredHold := by
  simp only [arrivalRunIfDue]
  split
  · rfl
  · split
    · obtain ⟨-, -, -, hold, -⟩ := arrivalRun_proposal _ s
      exact hold
    · rfl

end State
end Sys2Proof.Machine

open Sys2Proof Sys2Proof.Machine

/-- Settles O21: an arrival that leaves its sender the partner raises no CROWD, so the apply unit serves it on the queue and
the own contents as they stood. -/
theorem partnerArrivalServed : Obligations.PartnerArrivalServed := by
  intro source p vIn s on other notPolicy station phase port outcome
  obtain ⟨st, named⟩ := stationOfCode_composed station
  have fields : fieldsComposable p = true := by simp [fieldsComposable, named, phase, port, outcome]
  refine ⟨_, State.exec_stateArrival p vIn on other notPolicy, fun paired partner => ?_⟩
  rw [State.settleShelf_state] at paired
  rw [State.settleShelf_outside vIn _ (by simp [paired])] at partner ⊢
  obtain ⟨sender, served⟩ := State.takeArrival_served named fields partner
  rw [served] at paired partner ⊢
  generalize hu : s.endReception.takeEntry source p st = u at sender paired partner ⊢
  obtain ⟨e, isPartner, -⟩ := Option.map_eq_some_iff.mp sender
  obtain ⟨line, apply⟩ : u.line = s.endReception.line ∧ u.apply = s.apply := hu ▸ State.takeEntry_partnered (hu ▸ isPartner)
  have state : u.freed.line.state = s.line.state := by rw [State.freed, State.withApply_line, line]; rfl
  have sending : u.freed.line.sending = s.line.sending := by rw [State.freed, State.withApply_line, line]; rfl
  have composed : u.freed.round.composed = s.round.composed := hu ▸ State.takeEntry_composed source p st s.endReception
  have accrued : u.accrued = s.accrued := hu ▸ State.takeEntry_accrued source p st s.endReception
  have due : u.freed.station.state = .paired := State.serveArrival_station u ▸ paired
  refine ⟨?_, u.serveArrival_judged, fun none => ?_, fun c e' own found => ?_⟩
  · rw [State.serveArrival_apply]
    exact State.arrivalRunIfDue_hold _
  · rw [State.serveArrival_apply, State.arrivalRunIfDue_none (composed.trans none)]
    simp only [State.freed, State.withApply_apply, apply]
  · intro run
    have ran : u.freed.arrivalRunIfDue = u.freed.arrivalRun c := State.arrivalRunIfDue_due (composed.trans own) due
    obtain ⟨proposal, code, flags, -, lastL⟩ := u.freed.arrivalRun_proposal c
    have figures : u.serveArrival.composedSet c = u.freed.composedSet c :=
      State.composedSet_congr c (State.serveArrival_start u) (by rw [State.serveArrival_eq, State.judgeLink_round, ran, lastL])
    have sameRun : u.freed.run (u.freed.composedSet c) = run := by
      simp only [run, figures]
      exact State.run_paired _ due ((congrArg partnerOf (State.serveArrival_peers u)).symm.trans found)
    rw [sameRun] at proposal code flags
    rw [State.serveArrival_apply, State.serveArrival_eq, State.judgeLink_accrued, State.judgeLink_line, ran]
    refine ⟨proposal, code, flags.trans (congrArg (OutcomeFlags.add · run.2) accrued), fun q waits idle => ?_,
      fun waits running => ?_⟩
    · rw [State.arrivalRun_waiting c (state.trans waits) (sending ▸ idle), sameRun]
      rfl
    · obtain ⟨pending, kept⟩ := State.arrivalRun_sending c (state ▸ waits) (sending.trans running)
      exact ⟨pending, (congrArg LineController.state kept).trans state⟩
end

section
/-!
SUPPORT. The part of a state that the bounds on the applied setpoints read, its bearing, and which operations leave it alone.
-/

namespace Sys2Proof.Machine

/-- What the bounds of R67, R70 and R74 read of a state. -/
structure Bearing where
  state : StationState
  contract : Option Nat
  peers : List Entry
  barred : Bool
  proposal : Setting
  posted : Option Setting
  draw : Nat
  charge : Nat
  link : Int
  hold : Bool

namespace State

/-- The bearing of a state. -/
def bearing (s : State) : Bearing where
  state := s.station.state
  contract := s.policy.contract
  peers := s.peers
  barred := decide (s.hinge.link = .barred)
  proposal := s.apply.proposal
  posted := s.apply.posted
  draw := s.apply.draw
  charge := s.apply.charge
  link := s.apply.link
  hold := s.apply.unansweredHold

@[simp] theorem count_bearing (k : Corrected) (s : State) : (s.count k).bearing = s.bearing := by simp [bearing]

@[simp] theorem countIf_bearing (b : Bool) (k : Corrected) (s : State) : (s.countIf b k).bearing = s.bearing := by
  simp [bearing]

@[simp] theorem handReply_bearing (r : ReplyContents) (s : State) : (s.handReply r).bearing = s.bearing := by simp [bearing]

@[simp] theorem handState_bearing (p : OwnState) (s : State) : (s.handState p).bearing = s.bearing := by simp [bearing]

@[simp] theorem logKind_bearing (k : Kind) (s : State) : (s.logKind k).bearing = s.bearing := by simp [bearing]

@[simp] theorem judgeCrowd_bearing (s : State) : s.judgeCrowd.bearing = s.bearing := by
  simp [bearing, judgeCrowd_station]

@[simp] theorem advance_bearing (ms : Nat) (s : State) : (s.advance ms).bearing = s.bearing := rfl

@[simp] theorem otherEdge_bearing (s : State) : s.otherEdge.bearing = s.bearing := by simp [bearing]

@[simp] theorem beginSweepIfNone_bearing (s : State) : s.beginSweepIfNone.bearing = s.bearing := by
  rw [beginSweepIfNone_eq]; rfl

@[simp] theorem requestSweep_bearing (s : State) : s.requestSweep.bearing = s.bearing := by
  have link : s.requestSweep.hinge.link = s.hinge.link := by rw [requestSweep_hinge]
  simp [bearing, link]

@[simp] theorem requestSweepIf_bearing (b : Bool) (s : State) : (s.requestSweepIf b).bearing = s.bearing := by
  cases b
  exacts [rfl, requestSweep_bearing s]

@[simp] theorem foldMotion_bearing (s : State) : s.foldMotion.bearing = s.bearing :=
  requestSweepIf_bearing _ _

@[simp] theorem endReception_bearing (s : State) : s.endReception.bearing = s.bearing := rfl

@[simp] theorem stopSending_bearing (read : List Bool) (s : State) : (s.stopSending read).bearing = s.bearing := rfl

@[simp] theorem lineIdle_bearing (s : State) : s.lineIdle.bearing = s.bearing := rfl

@[simp] theorem releaseHeld_bearing (s : State) : s.releaseHeld.bearing = s.bearing := by simp [bearing]

@[simp] theorem settleRetry_bearing (s : State) : s.settleRetry.bearing = s.bearing := by
  simp only [settleRetry, releaseHeld_bearing]
  split <;> rfl

@[simp] theorem removeState_bearing (s : State) : s.removeState.bearing = s.bearing := by
  simp only [removeState, releaseHeld_bearing]; rfl

@[simp] theorem abortPost_bearing (k : PostKind) (s : State) : (s.abortPost k).1.bearing = s.bearing := by
  cases k with
  | alert => rfl
  | reply => rfl
  | state =>
    simp only [abortPost]
    split
    · rfl
    · split
      · rw [settleRetry_bearing]; rfl
      · exact removeState_bearing s

@[simp] theorem echoMismatch_bearing (k : PostKind) (read : List Bool) (s : State) :
    (s.echoMismatch k read).1.bearing = s.bearing := by
  simp [echoMismatch]

@[simp] theorem abortRunning_bearing (s : State) : s.abortRunning.1.bearing = s.bearing := by
  simp only [abortRunning]
  split
  · rfl
  · exact echoMismatch_bearing _ _ _

@[simp] theorem discardBuffer_bearing (heard : List Bool) (s : State) : (s.discardBuffer heard).bearing = s.bearing := by
  simp [bearing]

@[simp] theorem failFinal_bearing (s : State) : s.failFinal.bearing = s.bearing := by simp [bearing]

@[simp] theorem switchOff_bearing (vIn : Nat) (s : State) : (s.switchOff vIn).bearing = s.bearing := rfl

@[simp] theorem settleShelf_bearing (vIn : Nat) (s : State) : (s.settleShelf vIn).bearing = s.bearing := by
  rcases s.settleShelf_cases vIn with ⟨-, -, -, e⟩ | e <;> rw [e]
  exact switchOff_bearing vIn s

@[simp] theorem servePost_bearing (r : Setting) (code : Nat) (s : State) : (s.servePost r code).bearing = s.bearing := by
  simp only [servePost]
  split
  · rfl
  · split <;> rfl

@[simp] theorem handAll_bearing (s : State) : s.handAll.bearing = s.bearing := by
  obtain ⟨-, -, barred⟩ := s.handAll_stage
  simp only [bearing, barred]
  rfl

@[simp] theorem recordL_bearing (f : Figures) (m : Marks) (s : State) : (s.recordL f m).bearing = s.bearing := by
  simp [bearing]

@[simp] theorem swept_bearing (r : Readings) (s : State) : (s.swept r).bearing = s.bearing := by simp [bearing, swept]

@[simp] theorem sweepPort_bearing (s : State) : s.sweepPort.bearing = s.bearing := by
  simp only [sweepPort, requestSweepIf_bearing]; rfl

@[simp] theorem endSweep_bearing (s : State) : s.endSweep.bearing = s.bearing := rfl

theorem item_bearing (item argument : Byte) (s : State) : (State.item item argument s).1.bearing = s.bearing := by
  have named (i : Byte) (act : Class → State × ReplyContents) (h : ∀ c, (act c).1.bearing = s.bearing) :
      (classItem i argument s act).1.bearing = s.bearing := by
    simp only [classItem]
    split
    exacts [rfl, h _]
  simp only [State.item]
  split
  case h_1 => exact named _ _ fun _ => rfl
  case h_2 => exact named _ _ fun _ => rfl
  case h_5 => exact named _ _ fun _ => rfl
  all_goals rfl

end State
end Sys2Proof.Machine
end

section
/-!
SUPPORT. What the bounds on the applied setpoints say, and what the operations on the setpoints, the station state and the peer
table keep of them.
-/

namespace Sys2Proof.Machine

/-! ### The partner as the peer table changes -/

theorem partnerOf_eq_some_iff {es : List Entry} {e : Entry} : partnerOf es = some e ↔ es.filter Entry.qualifies = [e] := by
  simp only [partnerOf]
  split
  · rename_i e' only
    simp [only]
  · rename_i others
    simpa using others e

/-- The partner is the one qualifying entry (R155). -/
theorem eq_of_partnerOf {es : List Entry} {e f : Entry} (h : partnerOf es = some e) (hf : f ∈ es) (q : f.qualifies = true) :
    f = e := by
  have : f ∈ es.filter Entry.qualifies := List.mem_filter.mpr ⟨hf, q⟩
  simpa [partnerOf_eq_some_iff.mp h] using this

theorem mem_of_partnerOf {es : List Entry} {e : Entry} (h : partnerOf es = some e) : e ∈ es ∧ e.qualifies = true := by
  have : e ∈ es.filter Entry.qualifies := by simp [partnerOf_eq_some_iff.mp h]
  exact List.mem_filter.mp this

/-- After aging the partner is the same station, if there is one (R154, R155). -/
theorem partnerOf_aged {es : List Entry} {e f : Entry} (h : partnerOf es = some e) (aged : partnerOf (ageEntries es) = some f) :
    f = e.aged := by
  obtain ⟨hf, q⟩ := mem_of_partnerOf aged
  obtain ⟨g, hg, rfl⟩ := List.mem_map.mp (List.mem_filter.mp hf).1
  rw [eq_of_partnerOf h hg (qualifies_of_aged q)]

/-- After an entry is written the partner is its station or the one before, if there is one (R153, R155). -/
theorem partnerOf_written {es : List Entry} {e f n : Entry} (h : partnerOf es = some e)
    (written : partnerOf (writeEntry n es) = some f) : f = n ∨ f = e := by
  obtain ⟨hf, q⟩ := mem_of_partnerOf written
  exact (State.mem_writeEntry hf).imp_right fun hf => eq_of_partnerOf h hf q

/-! ### The link found between two stations -/

/-- The link that own posted X, partner's posted X and proposed X allow (R67). -/
def linkFound (own other proposed : Int) : Int :=
  if 0 < own ∧ other < 0 ∧ 0 < proposed then min own (min (-other) proposed)
  else if own < 0 ∧ 0 < other ∧ proposed < 0 then -(min (-own) (min other (-proposed)))
  else 0

/-- A link lies from 0 to a bound of either sign. -/
def LinkWithin (link bound : Int) : Prop :=
  (0 ≤ link ∧ link ≤ bound) ∨ (bound ≤ link ∧ link ≤ 0)

/-- A link within what one proposal allows, compared with the next, is within what that one allows (R64, R67). -/
theorem linkUnder_within {own other proposed next link : Int} (h : LinkWithin link (linkFound own other proposed)) :
    LinkWithin (linkUnder link next) (linkFound own other next) := by
  simp only [LinkWithin, linkFound] at h ⊢
  rcases lt_trichotomy link 0 with neg | rfl | pos
  · have receives : own < 0 ∧ 0 < other ∧ link ≥ own ∧ link ≥ -other := by
      split_ifs at h <;> omega
    simp only [linkUnder]
    split_ifs <;> omega
  · simp [linkUnder]
    omega
  · have sends : 0 < own ∧ other < 0 ∧ link ≤ own ∧ link ≤ -other := by
      split_ifs at h <;> omega
    simp only [linkUnder]
    split_ifs <;> omega

namespace State

/-! ### The link judged -/

/-- What keeps a full link judgement from finding a link (R67). -/
def LinkClosed (s : State) : Prop :=
  s.station.state ≠ .paired ∨ s.apply.unansweredHold = true ∨ s.hinge.link = .barred

theorem judgedLink_closed {s : State} (h : s.LinkClosed) : s.judgedLink = 0 :=
  if_pos h

theorem judgedLink_open {s : State} (h : ¬s.LinkClosed) : s.judgedLink =
    linkFound ((s.apply.posted.map Setting.x).getD 0) ((s.partner.map Entry.x).getD 0) s.apply.proposal.x :=
  if_neg h

/-- Only PAIRED with a partner can a link be found (R67). -/
theorem judgedLink_ne_zero {s : State} (h : s.judgedLink ≠ 0) : s.station.state = .paired ∧ ∃ e, s.partner = some e := by
  have open_ : ¬s.LinkClosed := fun c => h (judgedLink_closed c)
  refine ⟨not_not.mp fun unpaired => open_ (.inl unpaired), Option.ne_none_iff_exists'.mp fun none => h ?_⟩
  simp [judgedLink_open open_, none, linkFound]

theorem linkBounded_of_zero {s : State} (h : s.apply.link = 0) : s.LinkBounded := by
  rw [LinkBounded, h]; omega

theorem linkBounded_of_judged {s : State} (h : s.apply.link = s.judgedLink) : s.LinkBounded := by
  rw [LinkBounded, h]; omega

theorem LinkBounded.zero {s : State} (b : s.LinkBounded) (h : s.judgedLink = 0) : s.apply.link = 0 := by
  rw [LinkBounded, h] at b; omega

theorem LinkBounded.unpaired {s : State} (b : s.LinkBounded) (h : s.station.state ≠ .paired) : s.apply.link = 0 :=
  b.zero (judgedLink_unpaired h)

/-! ### What is kept -/

/-- `t` keeps the bounds of `s` on the applied draw and the applied charge. -/
structure PowersKept (s t : State) : Prop where
  draw : s.DrawBounded → t.DrawBounded
  charge : s.ChargeBounded → t.ChargeBounded

/-- `t` keeps the bounds of `s` on all three applied setpoints. -/
structure SetpointsKept (s t : State) : Prop extends PowersKept s t where
  link : s.LinkBounded → t.LinkBounded

theorem PowersKept.trans {s t u : State} (h : PowersKept s t) (k : PowersKept t u) : PowersKept s u :=
  ⟨k.draw ∘ h.draw, k.charge ∘ h.charge⟩

theorem SetpointsKept.refl (s : State) : SetpointsKept s s := ⟨⟨id, id⟩, id⟩

theorem SetpointsKept.trans {s t u : State} (h : SetpointsKept s t) (k : SetpointsKept t u) : SetpointsKept s u :=
  ⟨h.toPowersKept.trans k.toPowersKept, k.link ∘ h.link⟩

/-- Neither power has risen, and the charge is 0 on entry into LATCHED. -/
theorem PowersKept.of_le {s t : State} (posted : t.apply.posted = s.apply.posted)
    (proposal : t.apply.proposal = s.apply.proposal) (contract : t.policy.contract = s.policy.contract)
    (draw : t.apply.draw ≤ s.apply.draw) (charge : t.apply.charge ≤ s.apply.charge)
    (latched : t.station.state = .latched → s.station.state = .latched ∨ t.apply.charge = 0) : PowersKept s t := by
  constructor
  · rintro ⟨own, proposed, stored⟩
    rw [DrawBounded, posted, proposal, contract]
    exact ⟨by omega, by omega, fun k hk => draw.trans (stored k hk)⟩
  · rintro ⟨own, proposed, rest⟩
    rw [ChargeBounded, posted, proposal]
    refine ⟨by omega, by omega, fun l => ?_⟩
    rcases latched l with l | zero
    · have := rest l
      omega
    · exact zero

/-- The bounds speak of the bearing alone. -/
theorem SetpointsKept.of_bearing {s t : State} (h : t.bearing = s.bearing) : SetpointsKept s t := by
  obtain ⟨state, contract, peers, barred, proposal, posted, draw, charge, link, hold⟩ := (Bearing.mk.injEq ..).mp h
  have judged : t.judgedLink = s.judgedLink :=
    judgedLink_congr posted proposal hold peers state (decide_eq_decide.mp barred)
  exact ⟨.of_le posted proposal contract draw.le charge.le fun l => .inl (state ▸ l),
    fun b => by rw [LinkBounded, link, judged]; exact b⟩

/-- What is kept from a state of the same bearing on. -/
theorem SetpointsKept.after {s t u : State} (k : SetpointsKept t u) (h : t.bearing = s.bearing) : SetpointsKept s u :=
  (SetpointsKept.of_bearing h).trans k

/-- An opened link is within its bound. -/
theorem PowersKept.opened {s t : State} (h : PowersKept s t) (zero : t.apply.link = 0) : SetpointsKept s t :=
  ⟨h, fun _ => linkBounded_of_zero zero⟩

/-- A link as judged is within its bound. -/
theorem PowersKept.judged {s t : State} (h : PowersKept s t) (judged : t.apply.link = t.judgedLink) : SetpointsKept s t :=
  ⟨h, fun _ => linkBounded_of_judged judged⟩

/-! ### The setpoints -/

theorem setLink_powers (x : Int) (s : State) : PowersKept s (s.setLink x) := by
  have apply := setLink_apply x s
  exact .of_le (by rw [apply]) (by rw [apply]) (by simp) (by rw [apply]) (by rw [apply]) fun l => .inl (by simpa using l)

theorem judgeLink_kept (s : State) : SetpointsKept s s.judgeLink :=
  (setLink_powers _ s).judged ((judgeLink_link s).trans (judgeLink_judgedLink s).symm)

theorem setCharge_apply (c : Nat) (s : State) :
    (s.setCharge c).apply = { s.apply with charge := c, chargeMa := (s.setCharge c).apply.chargeMa } :=
  congrArg State.apply (setCharge_eq c s)

theorem setDraw_apply (g : Nat) (s : State) :
    (s.setDraw g).apply = { s.apply with draw := g, drawMa := (s.setDraw g).apply.drawMa } :=
  congrArg State.apply (setDraw_eq g s)

/-- Draw and charge do not enter the link judgement (R67). -/
theorem setCharge_link_bounded (c : Nat) {s : State} (b : s.LinkBounded) : (s.setCharge c).LinkBounded := by
  have apply := setCharge_apply c s
  have judged : (s.setCharge c).judgedLink = s.judgedLink :=
    judgedLink_congr (by rw [apply]) (by rw [apply]) (by rw [apply]) (by simp) (by simp) (by simp)
  rw [LinkBounded, judged, apply]
  exact b

theorem setDraw_link_bounded (g : Nat) {s : State} (b : s.LinkBounded) : (s.setDraw g).LinkBounded := by
  have apply := setDraw_apply g s
  have judged : (s.setDraw g).judgedLink = s.judgedLink :=
    judgedLink_congr (by rw [apply]) (by rw [apply]) (by rw [apply]) (by simp) (by simp) (by simp)
  rw [LinkBounded, judged, apply]
  exact b

theorem setCharge_zero_kept (s : State) : SetpointsKept s (s.setCharge 0) := by
  have apply := setCharge_apply 0 s
  refine ⟨.of_le (by rw [apply]) (by rw [apply]) (by simp) (by rw [apply]) (by simp) fun _ => .inr (by simp), ?_⟩
  exact setCharge_link_bounded 0

/-- A new proposal lowers what exceeds it (R62, R63). -/
theorem replaceProposal_powers (r : Setting) (code : Nat) (s : State) : PowersKept s (s.replaceProposal r code) := by
  obtain ⟨proposal, -, posted, draw, charge, -⟩ := replaceProposal_apply r code s
  constructor
  · rintro ⟨own, -, stored⟩
    rw [DrawBounded, proposal, posted, draw, replaceProposal_policy]
    exact ⟨by omega, by omega, fun k hk => (Nat.min_le_left _ _).trans (stored k hk)⟩
  · rintro ⟨own, -, rest⟩
    rw [ChargeBounded, proposal, posted, charge, replaceProposal_station]
    refine ⟨by omega, by omega, fun l => ?_⟩
    simp [rest l]

/-- The link compared stays within the new proposal's X and, as before, within both posted X (R64, R67). -/
theorem replaceProposal_kept (r : Setting) (code : Nat) (s : State) : SetpointsKept s (s.replaceProposal r code) := by
  refine ⟨replaceProposal_powers r code s, fun b => ?_⟩
  obtain ⟨proposal, -, posted, -, -, link, hold, -⟩ := replaceProposal_apply r code s
  obtain ⟨-, -, barred, -⟩ := s.replaceProposal_stages r code
  by_cases closed : s.LinkClosed
  · exact linkBounded_of_zero (by rw [link, b.zero (judgedLink_closed closed)]; rfl)
  · have open_ : ¬(s.replaceProposal r code).LinkClosed := by
      rwa [LinkClosed, replaceProposal_station, hold, barred]
    have partner : (s.replaceProposal r code).partner = s.partner := congrArg partnerOf (replaceProposal_peers r code s)
    rw [LinkBounded, judgedLink_open closed] at b
    rw [LinkBounded, judgedLink_open open_, link, proposal, posted, partner]
    exact linkUnder_within b

end State
end Sys2Proof.Machine
end

section
/-!
SUPPORT. What the operations of the machine keep of the bounds on the applied setpoints, and every step.
-/

namespace Sys2Proof.Machine.State

/-! ### Changes of station state -/

/-- Of the station states LATCHED alone asks anything of the powers (R74). -/
theorem become_powers {st : StationState} (h : st ≠ .latched) (s : State) : PowersKept s (s.become st) :=
  .of_le rfl rfl rfl le_rfl le_rfl fun l => absurd l h

theorem enterPaired_kept {s : State} (h : s.station.state ≠ .paired) : SetpointsKept s s.enterPaired := by
  have entered : SetpointsKept s (s.become .paired) :=
    ⟨become_powers (by simp) s, fun b => linkBounded_of_zero (b.unpaired h)⟩
  exact entered.trans (.of_bearing (requestSweep_bearing _))

theorem leavePaired_kept (s : State) : SetpointsKept s s.leavePaired :=
  (((become_powers (by simp) s).trans (setLink_powers 0 _)).opened (setLink_link 0 _)).trans
    (.of_bearing (requestSweep_bearing _))

theorem becomeSolo_kept {s : State} (h : s.station.state ≠ .paired) : SetpointsKept s (s.become .solo) :=
  ⟨become_powers (by simp) s, fun b => linkBounded_of_zero (b.unpaired h)⟩

theorem enterLatched_kept (s : State) : SetpointsKept s s.enterLatched := by
  obtain ⟨-, charge, link, -⟩ := enterLatched_spec s
  have apply : s.enterLatched.apply = { s.apply with
      charge := 0, link := 0, chargeMa := s.enterLatched.apply.chargeMa, linkMa := s.enterLatched.apply.linkMa } := by
    simp only [enterLatched, requestSweep_apply, requestSweepIf_apply, become_apply, withPort_apply, withCharger_apply]
    rw [setLink_apply, setCharge_apply]
    simp
  exact (PowersKept.of_le (by rw [apply]) (by rw [apply]) (by simp) (by rw [apply]) (by simp [charge])
    fun _ => .inr charge).opened link

theorem enterMute_kept (s : State) : SetpointsKept s s.enterMute := by
  have muted : SetpointsKept s ((s.become .mute).setLink 0) :=
    ((become_powers (by simp) s).trans (setLink_powers 0 _)).opened (setLink_link 0 _)
  exact muted.trans (.of_bearing (requestSweepIf_bearing _ _))

theorem haltingEffect_kept (s : State) : SetpointsKept s s.haltingEffect := by
  simp only [haltingEffect]
  split
  case h_1 => exact enterLatched_kept s
  case h_2 => exact enterLatched_kept s
  case h_3 => exact .refl s
  case h_4 => exact .of_bearing rfl
  case h_5 =>
    have uncharged := (setCharge_zero_kept (s.withFault { s.fault with dischargeClosed := false })).after (s := s) rfl
    split
    exacts [uncharged, uncharged.trans (.of_bearing rfl)]
  case h_6 => exact .of_bearing rfl

theorem raise_kept (k : Kind) (s : State) : SetpointsKept s (s.raise k) := by
  have logged : SetpointsKept s (s.logKind k) := .of_bearing (logKind_bearing k s)
  simp only [raise]
  split
  exacts [logged.trans (haltingEffect_kept _), logged]

theorem raiseAll_kept (ks : List Kind) (s : State) : SetpointsKept s (s.raiseAll ks) := by
  induction ks generalizing s with
  | nil => exact .refl s
  | cons k ks ih => exact (raise_kept k s).trans (ih _)

/-! ### The partner judgement -/

/-- A link without its partner, which the partner judgement opens (R73, R155). -/
def Abandoned (s : State) : Prop :=
  s.station.state = .paired ∧ s.partner = none

theorem judgePartner_powers (s : State) : PowersKept s s.judgePartner := by
  have crowd : SetpointsKept s s.judgeCrowd := .of_bearing (judgeCrowd_bearing s)
  simp only [judgePartner]
  split
  · rename_i h
    exact (crowd.trans (enterPaired_kept (by simp [h.1]))).toPowersKept
  · split
    exacts [(crowd.trans (leavePaired_kept _)).toPowersKept, crowd.toPowersKept]

theorem judgePartner_link {s : State} (h : s.LinkBounded ∨ s.Abandoned) : s.judgePartner.LinkBounded := by
  have crowd : SetpointsKept s s.judgeCrowd := .of_bearing (judgeCrowd_bearing s)
  rcases h with b | ⟨paired, none⟩
  · simp only [judgePartner]
    split
    · rename_i h
      exact (crowd.trans (enterPaired_kept (by simp [h.1]))).link b
    · split
      exacts [(crowd.trans (leavePaired_kept _)).link b, crowd.link b]
  · exact linkBounded_of_zero (judgePartner_leaves paired none).2

theorem judgePartner_kept (s : State) : SetpointsKept s s.judgePartner :=
  ⟨judgePartner_powers s, fun b => judgePartner_link (.inl b)⟩

/-- The peer table replaced, where nothing else that a link reads has changed. -/
theorem withPeers_powers (es : List Entry) (s : State) : PowersKept s (s.withPeers es) :=
  .of_le rfl rfl rfl le_rfl le_rfl .inl

/-- With a partner of the same X, or none, a link is within its bound or abandoned (R67, R73). -/
theorem withPeers_link {s : State} {es : List Entry} (b : s.LinkBounded)
    (h : ∀ e f, s.partner = some e → partnerOf es = some f → f.x = e.x) :
    (s.withPeers es).LinkBounded ∨ (s.withPeers es).Abandoned := by
  by_cases zero : s.judgedLink = 0
  · exact .inl (linkBounded_of_zero (b.zero zero))
  · obtain ⟨paired, e, some⟩ := judgedLink_ne_zero zero
    cases after : partnerOf es with
    | none => exact .inr ⟨paired, after⟩
    | some f =>
      have x : ((s.withPeers es).partner.map Entry.x).getD 0 = (s.partner.map Entry.x).getD 0 := by
        simp only [some, show (s.withPeers es).partner = Option.some f from after, Option.map_some, Option.getD_some]
        exact h e f some after
      have judged : (s.withPeers es).judgedLink = s.judgedLink := by
        simp only [judgedLink, x]
        rfl
      exact .inl (by rw [LinkBounded, judged]; exact b)

/-! ### The own round -/

theorem agePeers_kept (s : State) : SetpointsKept s s.agePeers := by
  have aged : SetpointsKept (s.withPeers (ageEntries s.peers)) s.peersAged := by
    simp only [peersAged]
    split
    exacts [.of_bearing (logKind_bearing _ _), .refl _]
  rw [agePeers_eq]
  refine ⟨((withPeers_powers _ s).trans aged.toPowersKept).trans (judgePartner_powers _), fun b => judgePartner_link ?_⟩
  have same (e f : Entry) (h : s.partner = some e) (h' : partnerOf (ageEntries s.peers) = some f) : f.x = e.x := by
    rw [partnerOf_aged h h']
    rfl
  refine (withPeers_link b same).imp aged.link fun ⟨paired, alone⟩ => ⟨?_, ?_⟩
  · rw [peersAged_eq]; exact paired
  · rw [partner, peersAged_peers]; exact alone

/-- The stage's own round and its release move the link by a judgement, or leave it and whether it is barred (R90, R92). -/
theorem judgedIf_kept {s : State} {h : HingeStage} {judges : Bool}
    (same : judges = false → (h.link = .barred ↔ s.hinge.link = .barred)) :
    SetpointsKept s (if judges then (s.withHinge h).judgeLink else s.withHinge h) := by
  have powers : PowersKept s (s.withHinge h) := .of_le rfl rfl rfl le_rfl le_rfl .inl
  cases judges
  · exact .of_bearing (by simp [bearing, same rfl])
  · exact (powers.trans (setLink_powers _ _)).judged ((judgeLink_link _).trans (judgeLink_judgedLink _).symm)

theorem hingeRound_kept (s : State) : SetpointsKept s s.hingeRound := by
  refine judgedIf_kept (s := s) fun no => ?_
  simp only [HingeStage.ownRound] at no ⊢
  split at no
  · split at no
    · simp at no
    · rw [if_neg ‹_›]
  · rfl

theorem releaseHinge_kept (s : State) : SetpointsKept s s.releaseHinge := by
  refine judgedIf_kept (s := s) fun no => ?_
  simp only [HingeStage.release] at no ⊢
  split at no
  · rw [if_pos ‹_›]
  · simp at no

theorem ownRound_kept (s : State) : SetpointsKept s s.ownRound := by
  have counted : SetpointsKept s s.roundCounted := .of_bearing rfl
  rw [ownRound_eq]
  exact ((counted.trans (agePeers_kept _)).trans (hingeRound_kept _)).trans (.of_bearing (beginSweepIfNone_bearing _))

/-! ### The start -/

theorem enterReady_kept {s : State} (h : s.station.state = .start) : SetpointsKept s s.enterReady := by
  have marks : SetpointsKept s (s.withStation { s.station with latchPending := false, mutePending := false }) :=
    .of_bearing rfl
  refine marks.trans ?_
  simp only [enterReady]
  split
  · exact enterMute_kept _
  · split
    exacts [enterLatched_kept _, becomeSolo_kept (by simp [h])]

theorem ready_kept {s : State} (h : s.station.state = .start) : SetpointsKept s s.ready := by
  have timed : SetpointsKept s.enterReady
      (s.enterReady.withRound { s.enterReady.round with timer := some s.enterReady.start.straps.period }).requestSweep :=
    .of_bearing (requestSweep_bearing _)
  have entered := (enterReady_kept h).trans timed
  simp only [ready]
  generalize requestSweep _ = u at entered ⊢
  have offered : SetpointsKept u (u.withLine { u.line with offering := u.mayOffer && !u.line.stuck }) := .of_bearing rfl
  split
  exacts [(entered.trans offered).trans (judgePartner_kept _), entered.trans offered]

theorem endListen_kept {s : State} (h : s.station.state = .start) : SetpointsKept s s.endListen :=
  (ready_kept (by exact h)).after rfl

theorem endStraps_kept (s0 s1 s2 s3 : Fin 16) (foldHigh : Bool) (s : State) :
    SetpointsKept s (s.endStraps s0 s1 s2 s3 foldHigh) := by
  simp only [endStraps]
  split
  exacts [(raise_kept _ _).after rfl, .of_bearing rfl]

theorem endProfile_kept (packId vCell : Nat) (s : State) : SetpointsKept s (s.endProfile packId vCell) := by
  simp only [endProfile]
  split
  exacts [(raise_kept _ _).after rfl, .of_bearing rfl]

theorem endCellCheck_kept (vCell : Nat) (tCell : Int) (s : State) : SetpointsKept s (s.endCellCheck vCell tCell) := by
  simp only [endCellCheck]
  split
  exacts [.of_bearing rfl, (raise_kept _ _).after rfl]

/-- After any reset the applied setpoints are 0 (R61). -/
theorem reset_kept {s t : State} (h : t.bearing = State.reset.bearing) : SetpointsKept s t := by
  have bounds : State.reset.LinkBounded ∧ State.reset.DrawBounded ∧ State.reset.ChargeBounded := by decide
  obtain ⟨link, draw, charge⟩ := bounds
  have same : SetpointsKept State.reset t := .of_bearing h
  exact ⟨⟨fun _ => same.draw draw, fun _ => same.charge charge⟩, fun _ => same.link link⟩

/-! ### The sweep -/

theorem sweepHinge_kept (s : State) : SetpointsKept s s.sweepHinge := by
  have checked : SetpointsKept s (s.withHinge (s.hinge.check s.round.channels.iHinge).1) :=
    have link : (s.hinge.check s.round.channels.iHinge).1.link = s.hinge.link := by rw [hingeCheck_eq]
    .of_bearing (by simp [bearing, link])
  simp only [sweepHinge]
  split
  · have held (u : State) : PowersKept u ((u.count .linkUnanswered).withApply
        { (u.count .linkUnanswered).apply with unansweredHold := true }) :=
      .of_le rfl rfl rfl le_rfl le_rfl .inl
    exact ((checked.toPowersKept.trans (held _)).trans (setLink_powers 0 _)).opened (setLink_link 0 _)
  · exact checked

theorem sweepCompose_kept (phase : Phase) (s : State) : SetpointsKept s (s.sweepCompose phase) := by
  have recorded : SetpointsKept s s.recordedL := .of_bearing (recordL_bearing _ _ s)
  have replaced : SetpointsKept s.recordedL s.runTaken := (replaceProposal_kept _ _ _).trans (.of_bearing rfl)
  have reported : SetpointsKept s.runTaken s.shortfallReported := by
    simp only [shortfallReported]
    split
    exacts [raise_kept _ _, .refl _]
  have handed : SetpointsKept s.shortfallReported s.readyToCompose :=
    .of_bearing ((handAll_bearing _).trans (countIf_bearing _ _ _))
  rw [sweepCompose_eq]
  exact (((recorded.trans replaced).trans reported).trans handed).trans (.of_bearing (handState_bearing _ _))

theorem completeSweep_kept (r : Readings) (s : State) : SetpointsKept s (s.completeSweep r) := by
  have stages : SetpointsKept s (s.sweptStages r) :=
    (sweepHinge_kept _).after ((sweepPort_bearing _).trans (swept_bearing r s))
  rw [completeSweep_eq]
  exact ((stages.trans (raiseAll_kept _ _)).trans (sweepCompose_kept _ _)).trans (.of_bearing (endSweep_bearing _))

/-! ### Posts heard -/

theorem arrivalRunIfDue_kept (s : State) : SetpointsKept s s.arrivalRunIfDue := by
  simp only [arrivalRunIfDue]
  split
  · exact .refl s
  · split
    · rw [arrivalRun_eq]
      exact (replaceProposal_kept _ _ s).trans (.of_bearing ((countIf_bearing _ _ _).trans (servePost_bearing _ _ _)))
    · exact .refl s

theorem serveArrival_powers (s : State) : PowersKept s s.serveArrival := by
  have freed : PowersKept s s.freed := .of_le rfl rfl rfl le_rfl le_rfl .inl
  rw [serveArrival_eq]
  exact (freed.trans (arrivalRunIfDue_kept _).toPowersKept).trans (judgeLink_kept _).toPowersKept

/-- The state in which the partner is judged at an arrival: the entry written, the stuck hold cleared (R157). -/
def entryWritten (source : BitVec 3) (post : StatePost) (st : StationState) (s : State) : State :=
  let u := s.countIf (seqGap post.seq (entryAt source s.peers)) .lineGap
  (u.withPeers (writeEntry (entryOf source post st ((entryAt source s.peers).bind Entry.lastL)) u.peers)).withStation
    { u.station with stuckHold := false }

theorem takeEntry_eq (source : BitVec 3) (post : StatePost) (st : StationState) (s : State) :
    s.takeEntry source post st = (s.entryWritten source post st).judgePartner := rfl

theorem takeEntry_powers (source : BitVec 3) (post : StatePost) (st : StationState) (s : State) :
    PowersKept s (s.takeEntry source post st) := by
  have counted : SetpointsKept s (s.countIf (seqGap post.seq (entryAt source s.peers)) .lineGap) :=
    .of_bearing (countIf_bearing _ _ s)
  have cleared (u : State) : SetpointsKept u (u.withStation { u.station with stuckHold := false }) := .of_bearing rfl
  rw [takeEntry_eq]
  exact ((counted.toPowersKept.trans (withPeers_powers _ _)).trans (cleared _).toPowersKept).trans (judgePartner_powers _)

/-- An arrival from another than the partner it leaves, if it leaves one, keeps the link within its bound. -/
theorem takeEntry_link {source : BitVec 3} {post : StatePost} {st : StationState} {s : State} (b : s.LinkBounded)
    (other : (s.takeEntry source post st).partner.map Entry.address ≠ some source) :
    (s.takeEntry source post st).LinkBounded := by
  let u := s.countIf (seqGap post.seq (entryAt source s.peers)) .lineGap
  let n := entryOf source post st ((entryAt source s.peers).bind Entry.lastL)
  have counted : u.LinkBounded := (SetpointsKept.of_bearing (countIf_bearing _ _ s)).link b
  have cleared : SetpointsKept (u.withPeers (writeEntry n u.peers)) (s.entryWritten source post st) := .of_bearing rfl
  have partner : (s.takeEntry source post st).partner = partnerOf (writeEntry n u.peers) := by
    rw [takeEntry_eq, State.partner, judgePartner_peers]
    rfl
  rw [takeEntry_eq]
  refine judgePartner_link ((withPeers_link counted fun e f h h' => ?_).imp cleared.link fun gone => gone)
  rcases partnerOf_written h h' with rfl | rfl
  · exact absurd (by rw [partner, h']; rfl) other
  · rfl

theorem takeArrival_kept (source : BitVec 3) (post : StatePost) (s : State) : SetpointsKept s (s.takeArrival source post) := by
  have counted : SetpointsKept s (s.count .lineCrc) := .of_bearing (count_bearing _ _)
  simp only [takeArrival]
  split
  · exact counted
  · rename_i st _
    split
    · split
      · exact ((takeEntry_powers source post st s).trans (serveArrival_powers _)).judged (serveArrival_judged _)
      · rename_i unserved
        refine ⟨takeEntry_powers source post st s, fun b => takeEntry_link b fun sender => unserved ?_⟩
        simp [servedArrival, sender]
    · exact counted

theorem clash_kept (s : State) : SetpointsKept s s.clash := by
  simp only [clash]
  split
  case h_1 => exact .of_bearing rfl
  case h_5 => exact .refl s
  case h_6 => exact .refl s
  all_goals exact enterMute_kept s

theorem takeClash_kept (s : State) : SetpointsKept s s.takeClash :=
  ((raise_kept _ _).after (endReception_bearing s)).trans (clash_kept _)

theorem takeQuery_kept (target : Byte) {act : State → State × ReplyContents} (h : ∀ s, (act s).1.bearing = s.bearing)
    (s : State) : SetpointsKept s (s.takeQuery target act) := by
  have heard : SetpointsKept s s.endReception := .of_bearing (endReception_bearing s)
  cases hr : s.receiving
  · rw [takeQuery, hr]; exact .refl s
  · rcases s.takeQuery_cases target act hr with ⟨-, e⟩ | ⟨-, -, e⟩ | ⟨-, -, e⟩ <;> rw [e]
    · exact heard
    · exact heard.trans (.of_bearing (count_bearing _ _))
    · exact heard.trans (.of_bearing ((handReply_bearing _ _).trans (h _)))

/-! ### Orders -/

/-- In SHELF all that is applied is 0 (R75). -/
theorem enterShelf_kept (s : State) : SetpointsKept s s.enterShelf := by
  have apply : s.enterShelf.apply = s.unloaded.apply := queueFinal_apply _
  rw [unloaded_apply] at apply
  constructor
  · constructor
    · intro b
      rw [DrawBounded, apply]
      simp
    · intro b
      rw [ChargeBounded, apply]
      simp
  · exact fun _ => linkBounded_of_zero (by rw [apply])

theorem shelfOrder_kept (vIn : Nat) (s : State) : SetpointsKept s (s.shelfOrder vIn) := by
  simp only [shelfOrder]
  split
  exacts [(enterShelf_kept s).trans (.of_bearing (settleShelf_bearing _ _)), .refl s]

theorem leaveLatched_kept {s : State} (h : s.station.state = .latched) : SetpointsKept s s.leaveLatched := by
  have freed : SetpointsKept s ((s.withFault { s.fault with dischargeClosed := true }).become .solo).requestSweep :=
    ((becomeSolo_kept (by simp [h])).after rfl).trans (.of_bearing (requestSweep_bearing _))
  have judged := freed.trans (judgePartner_kept _)
  simp only [leaveLatched]
  generalize judgePartner _ = u at judged ⊢
  have released : SetpointsKept u (u.withCharger u.charger.released).releaseHinge := (releaseHinge_kept _).after rfl
  exact (judged.trans released).trans (.of_bearing rfl)

theorem releaseOrder_kept (s : State) : SetpointsKept s s.releaseOrder := by
  simp only [releaseOrder]
  split
  case h_2 => exact releaseHinge_kept s
  case h_3 => exact releaseHinge_kept s
  case h_4 h =>
    split
    exacts [leaveLatched_kept h, .refl s]
  all_goals exact .refl s

/-- A contract stored lowers the draw to it (R70). -/
theorem storeContract_kept (contract : Option Nat) (s : State) : SetpointsKept s (s.storeContract contract) := by
  cases contract with
  | none =>
    refine ⟨⟨fun b => ?_, id⟩, id⟩
    obtain ⟨own, proposed, -⟩ := b
    exact ⟨own, proposed, nofun⟩
  | some k =>
    simp only [storeContract]
    generalize hu : withPort _ _ = u
    have apply := setDraw_apply (min u.apply.draw k) u
    have charged : s.ChargeBounded → u.ChargeBounded := by subst hu; exact id
    have linked : s.LinkBounded → u.LinkBounded := by subst hu; exact id
    refine ⟨⟨fun b => ?_, fun b => ?_⟩, fun b => setDraw_link_bounded _ (linked b)⟩
    · obtain ⟨own, proposed, -⟩ := b
      have before : u.apply = s.apply := by subst hu; rfl
      have stored : u.policy.contract = some k := by subst hu; rfl
      rw [DrawBounded, setDraw_policy, stored, apply, before]
      refine ⟨by simp only; omega, by simp only; omega, fun k' hk => ?_⟩
      obtain rfl := Option.some.inj hk
      exact Nat.min_le_right _ _
    · rw [ChargeBounded, setDraw_station, apply]
      exact charged b

theorem takeLimit_kept (post : LimitPost) (vIn : Nat) (s : State) : SetpointsKept s (s.takeLimit post vIn) := by
  simp only [takeLimit]
  refine (storeContract_kept (contractStored post.contract) s).trans ?_
  generalize s.storeContract _ = u
  have requested : SetpointsKept u (u.withPolicy
      { u.policy with ceiling := ceilingStored post.ceiling, balance := balanceStored post.balance }).requestSweep :=
    .of_bearing (requestSweep_bearing _)
  refine requested.trans ?_
  cases orderStored post.order
  exacts [.refl _, shelfOrder_kept vIn _, releaseOrder_kept _]

/-! ### The line, the comparators and the input port -/

/-- A post sent gives the setpoints their new values within its own (R66). -/
theorem takeSent_kept (p : Setting) (s : State) : SetpointsKept s (s.takeSent p) := by
  obtain ⟨proposal, posted, draw, charge, link, -⟩ := takeSent_apply p s
  refine PowersKept.judged ⟨fun _ => ?_, fun b => ?_⟩ link
  · rw [DrawBounded, proposal, posted, draw, takeSent_policy]
    cases s.policy.contract with
    | none => exact ⟨by simp; omega, by simp; omega, nofun⟩
    | some k => exact ⟨by simp; omega, by simp; omega, fun k' hk => by obtain rfl := Option.some.inj hk; simp⟩
  · obtain ⟨-, -, zero⟩ := b
    rw [ChargeBounded, proposal, posted, charge, takeSent_station]
    by_cases latched : s.station.state = .latched
    · simp [latched, zero latched]
    · simp [latched]
      omega

theorem ownStateSent_kept (q : Queued OwnState) (s : State) : SetpointsKept s (s.ownStateSent q) := by
  have taken : SetpointsKept s ((s.posting q).takeSent q.post.contents.setting) := (takeSent_kept _ _).after rfl
  have sent : SetpointsKept ((s.posting q).takeSent q.post.contents.setting) (s.sent q) := .of_bearing rfl
  rw [ownStateSent_eq]
  exact (taken.trans sent).trans (.of_bearing (releaseHeld_bearing _))

theorem echoAbort_kept (k : PostKind) (read : List Bool) (s : State) : SetpointsKept s (s.echoAbort k read) := by
  have aborted : SetpointsKept s (s.echoMismatch k read).1 := .of_bearing (echoMismatch_bearing k read s)
  simp only [echoAbort]
  split
  exacts [aborted.trans (raise_kept _ _), aborted]

theorem stuckStation_kept (s : State) : SetpointsKept s s.stuckStation := by
  have held : SetpointsKept s (s.withStation { s.station with stuckHold := true }) := .of_bearing rfl
  simp only [stuckStation]
  split
  case h_3 => exact held.trans (leavePaired_kept _)
  case h_5 => exact .of_bearing (failFinal_bearing s)
  case h_6 => exact .refl s
  all_goals exact held

theorem lineStuck_kept (heard : List Bool) (s : State) : SetpointsKept s (s.lineStuck heard) := by
  have stopped (u : State) : SetpointsKept u (u.abortRunning.1.discardBuffer heard) :=
    .of_bearing ((discardBuffer_bearing _ _).trans (abortRunning_bearing u))
  simp only [lineStuck]
  have done := (((stopped (s.withLine { s.line with stuck := true, offering := false })).after (s := s) rfl).trans
    (raise_kept .lineStuck _)).trans (stuckStation_kept _)
  split
  exacts [done.trans (raise_kept _ _), done]

theorem hingeTrip_kept (s : State) : SetpointsKept s s.hingeTrip := by
  have tripped : PowersKept s (s.withHinge (s.hinge.trip s.round.stamp).1) := .of_le rfl rfl rfl le_rfl le_rfl .inl
  exact ((tripped.trans (raiseAll_kept _ _).toPowersKept).trans (setLink_powers 0 _)).opened (setLink_link 0 _)

theorem tripCell_kept (vCell : Nat) (iCell : Int) (s : State) : SetpointsKept s (s.tripCell vCell iCell) :=
  (raiseAll_kept (s.cellTrips vCell iCell) _).after rfl

theorem inputOvervolt_kept (s : State) : SetpointsKept s s.inputOvervolt :=
  (raise_kept _ _).after ((requestSweepIf_bearing _ _).trans rfl)

/-! ### Every command -/

/-- What follows a command in SHELF keeps what it has kept. -/
theorem SetpointsKept.settled {s t : State} (vIn : Nat) (k : SetpointsKept s t) : SetpointsKept s (t.settleShelf vIn) :=
  k.trans (.of_bearing (settleShelf_bearing vIn t))

/-- Every command keeps the bounds on the applied setpoints. -/
theorem exec_setpoints_kept {c : Instr} {s t : State} (h : exec c s = .next t) : SetpointsKept s t := by
  cases c
  case powerOnReset => cases h; exact reset_kept rfl
  case warmReset => cases h; exact reset_kept rfl
  case resetNRise => cases h; split; exacts [.refl s, .of_bearing rfl]
  case strapsComplete => cases h; split; exacts [endStraps_kept _ _ _ _ _ s, .refl s]
  case profileComplete => cases h; split; exacts [endProfile_kept _ _ s, .refl s]
  case cellCheckComplete => cases h; split; exacts [endCellCheck_kept _ _ s, .refl s]
  case listenEnd => cases h; split; exacts [endListen_kept ((atStage_iff 4 s).mp ‹_›).1, .refl s]
  case ownRoundExpiry => cases h; split; exacts [.refl s, (ownRound_kept _).after (advance_bearing _ s)]
  case sweepComplete => cases h; split; exacts [completeSweep_kept _ s, .refl s]
  case foldEdge =>
    cases h; split
    · exact .of_bearing rfl
    · split
      exacts [reset_kept rfl, .of_bearing (foldMotion_bearing _)]
  case foldWindowExpiry => cases h; split; exacts [.refl s, .of_bearing (requestSweep_bearing _)]
  case stateArrival source post vIn =>
    cases h; split
    · exact .refl s
    · split
      · exact takeClash_kept s
      · split
        exacts [.of_bearing (endReception_bearing s),
          ((takeArrival_kept source post _).after (endReception_bearing s)).settled vIn]
  case limit post vIn =>
    cases h; split
    · exact .refl s
    · split
      exacts [(takeLimit_kept post vIn _).after (endReception_bearing s), .of_bearing (endReception_bearing s)]
  case shelfOrder => cases h; exact shelfOrder_kept _ s
  case release => cases h; exact releaseOrder_kept s
  case readFirst target argument => cases h; exact takeQuery_kept _ (item_bearing 1 argument) s
  case readNext target argument => cases h; exact takeQuery_kept _ (item_bearing 2 argument) s
  case readCounters => cases h; exact takeQuery_kept _ (fun _ => rfl) s
  case readFlags => cases h; exact takeQuery_kept _ (fun _ => rfl) s
  case clearLog target argument => cases h; exact takeQuery_kept _ (item_bearing 5 argument) s
  case clearCounters => cases h; exact takeQuery_kept _ (fun _ => rfl) s
  case ackPin => cases h; exact takeQuery_kept _ (fun _ => rfl) s
  case readProfile => cases h; exact takeQuery_kept _ (fun _ => rfl) s
  case readStart => cases h; exact takeQuery_kept _ (fun _ => rfl) s
  case badItem => cases h; exact takeQuery_kept _ (item_bearing _ _) s
  case addressClash => cases h; split; exacts [takeClash_kept s, .refl s]
  case invalidPost =>
    cases h; split
    exacts [.of_bearing ((countIf_bearing _ _ _).trans (endReception_bearing s)), .refl s]
  case discardedPost => cases h; split; exacts [.of_bearing (endReception_bearing s), .refl s]
  case lineIdle => cases h; split; exacts [.of_bearing (lineIdle_bearing s), .refl s]
  case ownStateSent => cases h; split; exacts [(ownStateSent_kept _ s).settled _, .refl s]
  case alertSent => cases h; split; exacts [.of_bearing rfl, .refl s]
  case replySent => cases h; split; exacts [.of_bearing rfl, .refl s]
  case lostArbitration =>
    cases h; split
    case h_1 => exact .refl s
    case h_2 => exact .of_bearing ((settleRetry_bearing _).trans (stopSending_bearing _ s))
    all_goals exact .of_bearing (stopSending_bearing _ s)
  case echoAbort => cases h; split; exacts [.refl s, (echoAbort_kept _ _ s).settled _]
  case lineStuck => cases h; split; exacts [(lineStuck_kept _ s).settled _, .refl s]
  case shelfWaitExpiry =>
    cases h; split
    · exact .refl s
    · split
      exacts [.of_bearing ((settleShelf_bearing _ _).trans ((failFinal_bearing _).trans (advance_bearing _ s))), .refl s]
  case wakeWaitingForHigh => cases h; split; exacts [.of_bearing rfl, .refl s]
  case wakeEvent => cases h; split; exacts [reset_kept rfl, .refl s]
  case probeStepEnd => cases h; split; exacts [.of_bearing rfl, .refl s]
  case probeComparatorTrip => cases h; split; exacts [.of_bearing rfl, .refl s]
  case undervoltageTrip => cases h; split; exacts [.of_bearing (requestSweep_bearing _), .refl s]
  case inputOvervolt => cases h; split; exacts [(inputOvervolt_kept s).settled _, .refl s]
  case hingeTrip => cases h; split; exacts [(hingeTrip_kept s).settled _, .refl s]
  case thresholdLowering => cases h; split; exacts [.refl s, .of_bearing rfl]
  case cellOvervolt => cases h; split; exacts [(tripCell_kept _ _ s).settled _, .refl s]
  case cellOvercurrent => cases h; split; exacts [(tripCell_kept _ _ s).settled _, .refl s]
  case comparatorNoLongerAsserted => cases h; exact .of_bearing rfl

/-- Idling keeps them too. -/
theorem tick_setpoints_kept (s : State) : SetpointsKept s s.tick := by
  have edge : SetpointsKept s s.otherEdge := .of_bearing (otherEdge_bearing s)
  simp only [tick]
  refine edge.trans ?_
  split <;> exact .of_bearing rfl

theorem step_setpoints_kept {s t : State} (h : step s = .next t) : SetpointsKept s t := by
  simp only [step] at h
  split at h
  · cases h; exact tick_setpoints_kept s
  · exact (exec_setpoints_kept h).after rfl

end Sys2Proof.Machine.State

open Sys2Proof Sys2Proof.Machine

/-- Settles O58: every command and every idle step keeps each of the three bounds. -/
theorem stepKeepsSetpointBounds : Obligations.StepKeepsSetpointBounds := by
  intro s t h
  have kept := State.step_setpoints_kept h
  exact ⟨kept.link, kept.draw, kept.charge⟩
end

section
/-!
SUPPORT. The comparison of the link by the sign that it has (R64).
-/

namespace Sys2Proof.Machine

theorem linkUnder_pos {link : Int} (x : Int) (h : 0 < link) : linkUnder link x = if 0 < x then min link x else 0 := by
  simp [linkUnder, h, not_lt.mpr h.le]

theorem linkUnder_neg {link : Int} (x : Int) (h : link < 0) : linkUnder link x = if x < 0 then max link x else 0 := by
  simp [linkUnder, h, not_lt.mpr h.le]

end Sys2Proof.Machine

open Sys2Proof Sys2Proof.Machine

/-- Settles O48: each row of R64 is one sign of the link against one place of the proposal's X. -/
theorem linkCompared : Obligations.LinkCompared := by
  intro r code s link after
  obtain ⟨proposal, -, -, -, -, compared, -⟩ := State.replaceProposal_apply r code s
  have sending (h : 0 < link) : after.link = if 0 < r.x then min link r.x else 0 := compared.trans (linkUnder_pos r.x h)
  have receiving (h : link < 0) : after.link = if r.x < 0 then max link r.x else 0 := compared.trans (linkUnder_neg r.x h)
  refine ⟨proposal, fun h => compared.trans ?_, fun h x below => ?_, fun h above => ?_, fun h x => ?_, fun h x above => ?_,
    fun h below => ?_, fun h x => ?_⟩
  · rw [show s.apply.link = 0 from h]; rfl
  · rw [sending h, if_pos x]; omega
  · rw [sending h, if_pos (by omega)]; omega
  · rw [sending h, if_neg (by omega)]
  · rw [receiving h, if_pos x]; omega
  · rw [receiving h, if_pos (by omega)]; omega
  · rw [receiving h, if_neg (by omega)]
end

section
/-!
SUPPORT. HINGE_TRIP: what a trip leaves at the hinge link stage (R80, R88, R89).
-/

namespace Sys2Proof.Machine

/-- A stamp that the history does not hold joins it at the end, in place of the oldest of three (R80, R88). -/
theorem historyWith_new {stamp : Nat} {history : List Nat} (three : history.length ≤ 3) (new : stamp ∉ history) :
    historyWith stamp history = (history ++ [stamp]).drop (history.length - 2) := by
  rw [historyWith, if_neg new, List.drop_append_of_le_length (by omega)]
  split
  · rfl
  · rw [show history.length - 2 = 0 by omega, List.drop_zero]

/-- Three stamps within 64 rounds escalate (R89). -/
theorem escalates_iff (history : List Nat) :
    escalates history = true ↔ ∃ a b c, history = [a, b, c] ∧ (c + 16777216 - a) % 16777216 ≤ 64 := by
  constructor
  · intro h
    obtain ⟨three, near⟩ := (Bool.and_eq_true_iff.mp h)
    obtain ⟨a, b, c, rfl⟩ := List.length_eq_three.mp (of_decide_eq_true three)
    exact ⟨a, b, c, rfl, of_decide_eq_true near⟩
  · rintro ⟨a, b, c, rfl, near⟩
    simpa [escalates] using near

namespace State

/-- Kinds of class DEGRADED act on nothing beyond the log and the queue (R163). -/
theorem raiseAll_degraded {ks : List Kind} (h : ∀ k ∈ ks, k.severity = .degraded) (s : State) :
    s.raiseAll ks = { s with line := (s.raiseAll ks).line, fault := (s.raiseAll ks).fault } := by
  induction ks generalizing s with
  | nil => rfl
  | cons k ks ih =>
    have logged : s.raiseAll (k :: ks) = (s.logKind k).raiseAll ks := by
      rw [raiseAll_cons, raise_degraded k s (h k (by simp))]
    rw [logged]
    exact (ih (fun j hj => h j (by simp [hj])) _).trans (by rw [logKind_eq k s])

theorem tripKinds_degraded (repeats : Bool) : ∀ k ∈ tripKinds repeats, k.severity = .degraded := by
  cases repeats <;> decide

/-- The stage barred by a trip, with the kinds logged and the link still to be opened. -/
def tripped (s : State) : State :=
  (s.withHinge (s.hinge.trip s.round.stamp).1).raiseAll (tripKinds (s.hinge.trip s.round.stamp).2)

theorem hingeTrip_eq (s : State) : s.hingeTrip = s.tripped.setLink 0 := rfl

theorem tripped_eq (s : State) : s.tripped = { s with
    hinge := (s.hinge.trip s.round.stamp).1, line := s.tripped.line, fault := s.tripped.fault } :=
  raiseAll_degraded (tripKinds_degraded _) (s.withHinge _)

theorem tripped_hinge (s : State) : s.tripped.hinge = (s.hinge.trip s.round.stamp).1 := by rw [tripped_eq]

/-- What the log holds after a trip: HINGE_TRIP, and HINGE_REPEAT where it escalates (R88, R89). -/
theorem tripped_holds (s : State) : s.tripped.fault.Holds .hingeTrip ∧
    ((s.hinge.trip s.round.stamp).2 = true → s.tripped.fault.Holds .hingeRepeat) := by
  refine ⟨(raiseAll_holds _ _ _).mpr (.inr ?_), fun repeats => (raiseAll_holds _ _ _).mpr (.inr ?_)⟩
  · cases (s.hinge.trip s.round.stamp).2 <;> simp [tripKinds]
  · simp [tripKinds, repeats]

theorem hingeTrip_eq_blocks (s : State) : s.hingeTrip = { s with
    hinge := s.hingeTrip.hinge, line := s.hingeTrip.line, fault := s.hingeTrip.fault
    apply := { s.apply with link := 0, linkMa := s.hingeTrip.apply.linkMa } } := by
  rw [hingeTrip_eq, setLink_eq, tripped_eq]

end State
end Sys2Proof.Machine

open Sys2Proof Sys2Proof.Machine

/-- Settles O41: the trip bars the stage, and opening the link leaves barring and history. -/
theorem hingeTripBars : Obligations.HingeTripBars := by
  intro iHinge vIn s high on notShelf above three new
  have next : exec (.hingeTrip iHinge vIn) s = .next s.hingeTrip := by
    have powered : s.hingePowered = true := by simp [State.hingePowered, high, on]
    have outside : s.hingeTrip.station.state ≠ .shelf := by rw [State.hingeTrip_eq_blocks]; exact notShelf
    simp [exec, execHingeTrip, powered, above, State.settleShelf_outside vIn _ outside]
  have history : s.hingeTrip.hinge.history = historyWith s.round.stamp s.hinge.history := by
    rw [State.hingeTrip_eq, State.setLink_history, State.tripped_hinge]; rfl
  have barring : s.hingeTrip.hinge.barring = (s.hinge.trip s.round.stamp).1.barring := by
    rw [State.hingeTrip_eq, State.setLink_barring, State.tripped_hinge]
  have fault : s.hingeTrip.fault = s.tripped.fault := by rw [State.hingeTrip_eq, State.setLink_fault]
  obtain ⟨trip, repeats⟩ := s.tripped_holds
  refine ⟨_, next, ?_, State.setLink_link 0 _, history.trans (historyWith_new three new), fault ▸ trip, ?_⟩
  · rw [State.hingeTrip_eq, State.setLink_barred_iff, State.tripped_hinge]; rfl
  · intro escalated
    have escalates_ : escalates (historyWith s.round.stamp s.hinge.history) = true ↔ escalated := by
      rw [← history]; exact escalates_iff _
    refine ⟨fun e => ⟨?_, fault ▸ repeats (escalates_.mpr e)⟩, fun e => ?_, s.hingeTrip_eq_blocks⟩
    · simp [barring, HingeStage.trip, escalates_.mpr e]
    · have calm : escalates (historyWith s.round.stamp s.hinge.history) = false := by
        simpa using fun h => e (escalates_.mp h)
      simp [barring, HingeStage.trip, calm]
end

section
/-!
SUPPORT. The final STATE removed as failed (R142, R159).
-/

namespace Sys2Proof.Machine.State

/-- With the final STATE removed, none waits (R142). -/
theorem failFinal_finalWaiting (s : State) : s.failFinal.finalWaiting = false := by
  refine Bool.eq_false_iff.mpr fun waits => ?_
  rcases (finalWaiting_iff _).mp waits with ⟨q, state, final⟩ | ⟨p, held, -⟩
  · simp only [failFinal, withRound_line, withLine_line] at state
    cases before : s.line.state with
    | none => simp [before] at state
    | some q' =>
      cases f : q'.post.final
      · simp only [before, f, Bool.false_eq_true, if_false] at state
        obtain rfl := Option.some.inj state
        simp [f] at final
      · simp [before, f] at state
  · simp [failFinal] at held

/-- And in SHELF the stages go off (R159). -/
theorem settleShelf_failFinal (vIn : Nat) {s : State} (shelf : s.station.state = .shelf) (on : s.station.off = false) :
    s.failFinal.settleShelf vIn = s.failFinal.switchOff vIn :=
  settleShelf_off vIn (by simpa using shelf) (by simpa using on) s.failFinal_finalWaiting

end Sys2Proof.Machine.State

open Sys2Proof Sys2Proof.Machine

/-- Settles O38: the rest of the wait passes, and with the final STATE failed the stages go off. -/
theorem shelfWaitAndWakeDetector : Obligations.ShelfWaitAndWakeDetector := by
  intro vIn s
  refine ⟨fun w shelf on wait _ => ?_, fun low below => ?_⟩
  · have next : exec (.shelfWaitExpiry vIn) s = .next ((s.advance (1000 - w)).failFinal.switchOff vIn) := by
      have waits : s.station.state = .shelf ∧ !s.station.off := ⟨shelf, by simp [on]⟩
      simp only [exec, execShelfWaitExpiry, wait, if_pos waits]
      rw [State.settleShelf_failFinal (s := s.advance (1000 - w)) vIn shelf on]
    refine ⟨_, next, ?_, rfl, rfl, rfl, ?_, rfl, ?_, rfl, rfl, ?_, ?_, ?_, ?_, ?_, ?_⟩
    all_goals simp [State.switchOff, State.advance, State.failFinal]
  · simp [exec, execWakeWaitingForHigh, low, below, State.withPort]
end


section
/-!
SUPPORT. Posts that are not taken: what ADDRESS_CLASH leaves, and the QUERY items alike.
-/

namespace Sys2Proof.Machine
namespace State

/-! ### QUERY posts not taken -/

/-- Every item is a QUERY taken or not by the same rule (R179). -/
theorem exec_query {target item argument : Byte} {q : Instr}
    (h : q ∈ [Instr.readFirst target argument, .readNext target argument, .readCounters target argument,
      .readFlags target argument, .clearLog target argument, .clearCounters target argument, .ackPin target argument,
      .readProfile target argument, .readStart target argument, .badItem target item argument]) (s : State) :
    ∃ act, exec q s = .next (s.takeQuery target act) := by
  simp only [List.mem_cons, List.not_mem_nil, or_false] at h
  rcases h with rfl | rfl | rfl | rfl | rfl | rfl | rfl | rfl | rfl | rfl <;> exact ⟨_, rfl⟩

/-- With two REPLY posts waiting a QUERY is counted, and nothing else (R179). -/
theorem takeQuery_overrun {target : Byte} (act : State → State × ReplyContents) {s : State} (on : s.receiving = true)
    (toUs : target.toNat = s.start.straps.address.toNat ∨ target = 7) (two : 2 ≤ s.line.replies.length) :
    s.takeQuery target act = s.endReception.count .queryOverrun := by
  rcases takeQuery_cases target act s on with ⟨no, -⟩ | ⟨-, -, e⟩ | ⟨-, few, -⟩
  · simp [addressed_of toUs] at no
  · exact e
  · omega

/-- One to another station is discarded (R179). -/
theorem takeQuery_other {target : Byte} (act : State → State × ReplyContents) {s : State} (on : s.receiving = true)
    (other : ¬(target.toNat = s.start.straps.address.toNat ∨ target = 7)) : s.takeQuery target act = s.endReception := by
  have unaddressed : addressed s.start.straps.address target = false := by
    simpa [addressed, ← BitVec.toNat_inj] using other
  rcases takeQuery_cases target act s on with ⟨-, e⟩ | ⟨yes, -⟩ | ⟨yes, -⟩
  · exact e
  · simp [unaddressed] at yes
  · simp [unaddressed] at yes

/-! ### ADDRESS_CLASH -/

/-- The post heard and the kind logged, before the station machine takes the clash (R137). -/
def clashLogged (s : State) : State :=
  s.endReception.logKind .addressClash

theorem takeClash_eq (s : State) : s.takeClash = s.clashLogged.clash :=
  congrArg clash (raise_degraded .addressClash s.endReception rfl)

/-- No ALERT is handed for ADDRESS_CLASH: only the log of its class and the pin change (R169). -/
theorem clashLogged_eq (s : State) : s.clashLogged = { s with
    line := s.endReception.line
    fault := { s.fault with
      degraded := s.clashLogged.fault.degraded, fltAsserted := s.clashLogged.fault.fltAsserted } } := by
  simp only [clashLogged, logKind]
  split <;> rfl

theorem clashLogged_holds (s : State) : s.clashLogged.fault.Holds .addressClash :=
  (logKind_holds _ _ _).mpr (.inr rfl)

theorem enterMute_line (s : State) : s.enterMute.line = { s.line.emptied with offering := false } := by
  simp [enterMute, become]

theorem enterMute_apply (s : State) : s.enterMute.apply =
    { s.apply with link := 0, linkMa := s.enterMute.apply.linkMa, rewritePending := false } := by
  simp only [enterMute, requestSweepIf_apply, withApply_apply, withLine_apply]
  rw [setLink_apply]
  rfl

theorem enterMute_round (s : State) : s.enterMute.round = { s.round with
    held := none, timer := s.enterMute.round.timer, inFlight := s.enterMute.round.inFlight
    earlyRequest := s.enterMute.round.earlyRequest } := by
  have requested (b : Bool) (u : State) : (u.requestSweepIf b).round = { u.round with
      timer := (u.requestSweepIf b).round.timer, inFlight := (u.requestSweepIf b).round.inFlight
      earlyRequest := (u.requestSweepIf b).round.earlyRequest } := by
    cases b
    exacts [rfl, requestSweep_round u]
  simp only [enterMute]
  rw [requested]
  simp

/-- Leaving PAIRED for MUTE requests an early sweep (R73). -/
theorem enterMute_sweeps {s : State} (h : s.station.state = .paired) : s.enterMute.round.inFlight = true := by
  simp only [enterMute, h, decide_true, requestSweepIf, if_true]
  exact requestSweep_inFlight (by simp [become]) (by simp [become])

theorem clash_serving {s : State}
    (h : s.station.state = .solo ∨ s.station.state = .paired ∨ s.station.state = .latched) : s.clash = s.enterMute := by
  rcases h with h | h | h <;> simp only [clash, h]

theorem clash_starting {s : State} (h : s.station.state = .start) :
    s.clash = s.withStation { s.station with mutePending := true } := by
  simp only [clash, h]

theorem clash_resting {s : State} (h : s.station.state = .shelf ∨ s.station.state = .mute) : s.clash = s := by
  rcases h with h | h <;> simp only [clash, h]

/-- What no clash moves in round unit and apply unit (R73). -/
theorem clash_kept_fields (s : State) :
    s.clash.apply.proposal = s.apply.proposal ∧ s.clash.apply.posted = s.apply.posted ∧
      s.clash.apply.draw = s.apply.draw ∧ s.clash.apply.charge = s.apply.charge ∧ s.clash.round.seq = s.round.seq ∧
      s.clash.round.composed = s.round.composed := by
  cases h : s.station.state
  case start => rw [clash_starting h]; exact ⟨rfl, rfl, rfl, rfl, rfl, rfl⟩
  case shelf | mute => rw [clash_resting (by simp [h])]; exact ⟨rfl, rfl, rfl, rfl, rfl, rfl⟩
  all_goals
    rw [clash_serving (by simp [h]), enterMute_apply, enterMute_round]
    exact ⟨rfl, rfl, rfl, rfl, rfl, rfl⟩

end State
end Sys2Proof.Machine

open Sys2Proof Sys2Proof.Machine

/-- Settles O30. -/
theorem postsNotTaken : Obligations.PostsNotTaken := by
  intro bits target item argument q s on query heard toUs
  obtain ⟨act, asks⟩ := State.exec_query query s
  refine ⟨fun invalid => ?_, ?_, fun ours two => ?_, fun other => ?_, s.takeClash, ?_, ?_⟩
  · simp [exec, execInvalidPost, on, invalid]
    rfl
  · simp [exec, execDiscardedPost, on]
    rfl
  · rw [asks, State.takeQuery_overrun act on ours two]
    rfl
  · rw [asks, State.takeQuery_other act on other]
    rfl
  · simp [exec, execAddressClash, on]
  rw [State.takeClash_eq]
  have logged := s.clashLogged_eq
  have holds := s.clashLogged_holds
  generalize s.clashLogged = u at logged holds ⊢
  have line : u.line = heard := congrArg State.line logged
  have station : u.station = s.station := by rw [logged]
  have apply : u.apply = s.apply := by rw [logged]
  have round : u.round = s.round := by rw [logged]
  obtain ⟨proposal, posted, draw, charge, seq, composed⟩ := u.clash_kept_fields
  rw [apply] at proposal posted draw charge
  rw [round] at seq composed
  refine ⟨by rwa [State.clash_fault], by rw [State.clash_fault]; exact congrArg State.fault logged, fun serving => ?_,
    fun start => ?_, fun rest => ?_, ?_, proposal, posted, draw, charge, seq, composed⟩
  · have mute : u.clash = u.enterMute := State.clash_serving (by rwa [station])
    obtain ⟨state, link, empty, sending, offering, held, -⟩ := u.enterMute_spec
    rw [mute]
    refine ⟨by rw [state, station], empty, sending, offering, ?_, link, held, fun paired => ?_⟩
    · rw [State.enterMute_line, line]; rfl
    · exact State.enterMute_sweeps (by rwa [station])
  · rw [State.clash_starting (by rwa [station])]
    exact ⟨by rw [State.withStation_station, station], by rw [State.withStation_line, line]; rfl⟩
  · rw [State.clash_resting (by rwa [station])]
    exact logged.trans (congrArg (fun f => { s with fault := f, line := heard }) (congrArg State.fault logged).symm)
  · refine State.ext_blocks ?_ ?_ rfl ?_ ?_ rfl rfl ?_ ?_ rfl ?_ rfl ?_ rfl ?_ ?_
    all_goals simp only [State.clash_pending, State.clash_clock, State.clash_gauge, State.clash_accrued, State.clash_port,
      State.clash_charger, State.clash_peers, State.clash_start, State.clash_policy, State.clash_pins]
    all_goals rw [logged]
end

section
/-!
SUPPORT. LINE_STUCK, taken step by step (R138): the transmission abandoned, the buffer discarded, the kind logged, the station
machine, and TX_FAIL.
-/

namespace Sys2Proof.Machine

/-! ### The line less its queue -/

/-- What the line controller holds besides its posts. -/
def LineController.bare (l : LineController) : LineController :=
  { l with alerts := [], state := none, replies := [] }

theorem LineController.takeAlert_bare (a : AlertContents) (l : LineController) : (l.takeAlert a).1.bare = l.bare := by
  obtain ⟨sending, buffer, idle, low, offering, stuck⟩ := l.takeAlert_frame a
  simp only [bare, sending, buffer, idle, low, offering, stuck]

theorem LineController.takeState_bare (p : OwnState) (l : LineController) : (l.takeState p).1.bare = l.bare := by
  simp only [takeState]
  split
  · rfl
  · split
    · rfl
    · split
      · rename_i h; rw [(l.dropReply_some _ h).1]; rfl
      · rfl

/-- An ALERT takes the place of the own STATE, or leaves it (R140). -/
theorem LineController.takeAlert_state (a : AlertContents) (l : LineController) :
    (l.takeAlert a).1.state = l.state ∨ (l.takeAlert a).1.state = none := by
  simp only [takeAlert]
  split
  · exact .inl rfl
  · split
    · rename_i h; rw [(l.dropReply_some _ h).1]; exact .inl rfl
    · split
      · rename_i h; rw [(l.dropState_some _ h).1]; exact .inr rfl
      · exact .inl rfl

/-- The post at the head of its kind is removed at its fourth abort (R133). -/
theorem abortFirst_removed {α : Type} (qs : List (Queued α)) :
    (abortFirst qs).2 = true ↔ ∃ q rest, qs = q :: rest ∧ 3 ≤ q.aborts := by
  cases qs with
  | nil => simp [abortFirst]
  | cons q rest =>
    by_cases four : 3 ≤ q.aborts
    · simp [abortFirst, Queued.aborted_fourth four, four]
    · simp [abortFirst, Queued.aborted_below (not_le.mp four), four]

theorem abortFirst_length {α : Type} (qs : List (Queued α)) : (abortFirst qs).1.length ≤ qs.length := by
  cases qs with
  | nil => simp [abortFirst]
  | cons q rest =>
    by_cases four : 3 ≤ q.aborts
    · simp [abortFirst, Queued.aborted_fourth four]
    · simp [abortFirst, Queued.aborted_below (not_le.mp four)]

/-- What stands in apply unit and round unit through the events of the line. -/
structure Standing where
  proposal : Setting
  posted : Option Setting
  draw : Nat
  charge : Nat
  seq : Nat
  sent : Option Setting
  channels : Channels
  composed : Option StateContents

namespace State

/-- What stands of a state through the events of the line. -/
def standing (s : State) : Standing where
  proposal := s.apply.proposal
  posted := s.apply.posted
  draw := s.apply.draw
  charge := s.apply.charge
  seq := s.round.seq
  sent := s.round.posted
  channels := s.round.channels
  composed := s.round.composed

/-! ### Posts handed to the queue -/

theorem handState_bare (p : OwnState) (s : State) : (s.handState p).line.bare = s.line.bare := by
  simp only [handState]
  split
  · split
    · rfl
    · rw [countIf_line]; exact LineController.takeState_bare p s.line
  · rfl

theorem releaseHeld_bare (s : State) : s.releaseHeld.line.bare = s.line.bare := by
  simp only [releaseHeld]
  split
  exacts [rfl, handState_bare _ _]

theorem releaseHeld_log (c : Class) (s : State) : s.releaseHeld.fault.log c = s.fault.log c := by
  simp only [releaseHeld]
  split
  exacts [rfl, handState_log _ _ _]

/-- Where an own STATE waits or the queue has room, one handed displaces nothing (R18, R140). -/
theorem handState_fits (p : OwnState) {s : State} (h : s.line.state ≠ none ∨ s.line.waiting < 4) :
    (s.handState p).fault = s.fault ∧
      (s.handState p).line = { s.line with state := (s.handState p).line.state } := by
  simp only [handState]
  split
  · split
    · exact ⟨rfl, rfl⟩
    · cases state : s.line.state with
      | none =>
        rw [LineController.takeState_room p s.line state (h.resolve_left (not_not.mpr state))]
        exact ⟨rfl, rfl⟩
      | some q =>
        rw [LineController.takeState_waiting p s.line q state]
        exact ⟨rfl, rfl⟩
  · exact ⟨rfl, rfl⟩

theorem releaseHeld_fits {s : State} (h : s.line.state ≠ none ∨ s.line.waiting < 4) :
    s.releaseHeld.fault = s.fault ∧ s.releaseHeld.line = { s.line with state := s.releaseHeld.line.state } := by
  simp only [releaseHeld]
  split
  exacts [⟨rfl, rfl⟩, handState_fits (s := s.withRound _) _ h]

/-- In a queue with room a kind logged displaces nothing, and its ALERT joins at most (R140). -/
theorem logKind_fits (k : Kind) {s : State} (room : s.line.waiting < 4) :
    (s.logKind k).fault.line = s.fault.line ∧ (s.logKind k).line.waiting ≤ s.line.waiting + 1 := by
  have other (c : Class) (v : ClassLog) : (s.fault.withLog c v).line = s.fault.line := by cases c <;> rfl
  simp only [logKind]
  split
  · exact ⟨rfl, by omega⟩
  · split
    · exact ⟨other _ _, by simp⟩
    · simp only [handAlert]
      split
      · rw [withFault_line, takeAlert_room _ room]
        exact ⟨other _ _, by simp [countIf, LineController.waiting]; omega⟩
      · exact ⟨other _ _, by simp⟩

theorem logKind_bare (k : Kind) (s : State) : (s.logKind k).line.bare = s.line.bare := by
  have handed (a : AlertContents) (f : FaultUnit) : ((s.withFault f).handAlert a).line.bare = s.line.bare := by
    simp only [handAlert]
    split
    · rw [countIf_line]; exact LineController.takeAlert_bare a s.line
    · rfl
  simp only [logKind]
  split
  · rfl
  · split
    exacts [rfl, handed _ _]

/-- Logging a kind leaves the own STATE waiting, or displaces it (R140). -/
theorem logKind_state (k : Kind) (s : State) :
    (s.logKind k).line.state = s.line.state ∨ (s.logKind k).line.state = none := by
  have handed (a : AlertContents) (f : FaultUnit) :
      ((s.withFault f).handAlert a).line.state = s.line.state ∨ ((s.withFault f).handAlert a).line.state = none := by
    simp only [handAlert]
    split
    · rw [countIf_line]; exact LineController.takeAlert_state a s.line
    · exact .inl rfl
  simp only [logKind]
  split
  · exact .inl rfl
  · split
    exacts [.inl rfl, handed _ _]

/-- A first record stays (R167). -/
theorem logKind_first {k : Kind} {c : Class} {s : State} {f : FaultRecord} (h : (s.fault.log c).first = some f) :
    ((s.logKind k).fault.log c).first = some f := by
  rw [logKind_log]
  split
  · rcases (s.fault.log c).add_cases k (s.snapshot k) with ⟨none, -⟩ | ⟨_, _, _, e⟩ | ⟨_, _, _, _, e⟩
    · simp [none] at h
    · rw [e]; exact h
    · rw [e]; exact h
  · exact h

/-- The first kind of its class is the first record's (R167, R168). -/
theorem logKind_first_none {k : Kind} {s : State} (h : (s.fault.log k.severity).first = none) :
    ((s.logKind k).fault.log k.severity).first = some (s.snapshot k) := by
  rw [logKind_log, if_pos rfl]
  rcases (s.fault.log k.severity).add_cases k (s.snapshot k) with ⟨-, e⟩ | ⟨_, some, _⟩ | ⟨_, some, _⟩
  · rw [e]; rfl
  · simp [h] at some
  · simp [h] at some

/-! ### The abort -/

theorem settleRetry_bare (s : State) : s.settleRetry.line.bare = s.line.bare := by
  simp only [settleRetry, releaseHeld_bare]
  split <;> rfl

theorem settleRetry_log (c : Class) (s : State) : s.settleRetry.fault.log c = s.fault.log c := by
  simp only [settleRetry, releaseHeld_log]
  split <;> rfl

theorem settleRetry_fits {s : State} (h : s.line.state ≠ none) :
    s.settleRetry.fault = s.fault ∧ s.settleRetry.line = { s.line with state := s.settleRetry.line.state } := by
  simp only [settleRetry]
  split
  · obtain ⟨fault, line⟩ := releaseHeld_fits (s := (s.withLine { s.line with
      state := s.line.state.map fun q => { q with post := q.post.rewritten s.apply.proposal s.apply.code } }).withApply
        { s.apply with rewritePending := false }) (.inl (by simpa using h))
    exact ⟨fault, line⟩
  · exact releaseHeld_fits (s := s.withApply _) (.inl h)

/-- What an abort leaves beside the post: the line less its queue, and the log (R133). -/
theorem abortPost_bare (k : PostKind) (s : State) : (s.abortPost k).1.line.bare = s.line.bare := by
  cases k with
  | alert => rfl
  | reply => rfl
  | state =>
    simp only [abortPost]
    split
    · rfl
    · split
      · rw [settleRetry_bare]; rfl
      · rw [removeState, releaseHeld_bare]; rfl

theorem abortPost_log (k : PostKind) (c : Class) (s : State) : (s.abortPost k).1.fault.log c = s.fault.log c := by
  cases k with
  | alert => rfl
  | reply => rfl
  | state =>
    simp only [abortPost]
    split
    · rfl
    · split
      · rw [settleRetry_log]; rfl
      · rw [removeState, releaseHeld_log]; rfl

/-- An abort adds no post, and in a queue of at most four it displaces none (R133, R18). -/
theorem abortPost_fits (k : PostKind) {s : State} (four : s.line.waiting ≤ 4) :
    (s.abortPost k).1.fault = s.fault ∧ (s.abortPost k).1.line.waiting ≤ s.line.waiting := by
  cases k with
  | alert => exact ⟨rfl, Nat.add_le_add_right (Nat.add_le_add_right (abortFirst_length _) _) _⟩
  | reply => exact ⟨rfl, Nat.add_le_add_left (abortFirst_length _) _⟩
  | state =>
    cases state : s.line.state with
    | none => simp [abortPost, state]
    | some q =>
      have most (o : Option (Queued OwnState)) : { s.line with state := o }.waiting ≤ s.line.waiting := by
        simp only [LineController.waiting, state]
        cases o <;> simp
      by_cases n : 3 ≤ q.aborts
      · have removed : (s.abortPost .state).1 = s.removeState := by simp [abortPost, state, Queued.aborted_fourth n]
        have room : { s.line with state := none }.waiting < 4 := lt_of_lt_of_le (waiting_state_none s.line state) four
        obtain ⟨fault, line⟩ := releaseHeld_fits (s := (s.withLine { s.line with state := none }).withApply
          { s.apply with rewritePending := false }) (.inr room)
        rw [removed, removeState, line]
        exact ⟨fault, most _⟩
      · have kept : (s.abortPost .state).1 =
            (s.withLine { s.line with state := some { q with aborts := q.aborts + 1 } }).settleRetry := by
          simp [abortPost, state, Queued.aborted_below (not_le.mp n)]
        obtain ⟨fault, line⟩ := settleRetry_fits
          (s := s.withLine { s.line with state := some { q with aborts := q.aborts + 1 } }) nofun
        rw [kept, line]
        exact ⟨fault, most _⟩

/-- Which abort removes its post (R133). -/
theorem abortPost_removed (k : PostKind) (s : State) : (s.abortPost k).2 = true ↔
    (k = .alert ∧ ∃ q rest, s.line.alerts = q :: rest ∧ 3 ≤ q.aborts) ∨
    (k = .state ∧ ∃ q, s.line.state = some q ∧ 3 ≤ q.aborts) ∨
    (k = .reply ∧ ∃ q rest, s.line.replies = q :: rest ∧ 3 ≤ q.aborts) := by
  cases k with
  | alert => simpa [abortPost] using abortFirst_removed s.line.alerts
  | reply => simpa [abortPost] using abortFirst_removed s.line.replies
  | state =>
    simp only [abortPost]
    cases s.line.state with
    | none => simp
    | some q =>
      by_cases n : 3 ≤ q.aborts
      · simp [Queued.aborted_fourth n, n]
      · simp [Queued.aborted_below (not_le.mp n), n]

/-! ### The frame -/

theorem releaseHeld_standing (s : State) : s.releaseHeld.standing = s.standing := by
  simp only [releaseHeld]
  split
  · rfl
  · rw [handState_eq]; rfl

theorem abortPost_standing (k : PostKind) (s : State) : (s.abortPost k).1.standing = s.standing := by
  cases k with
  | alert => rfl
  | reply => rfl
  | state =>
    simp only [abortPost]
    split
    · rfl
    · split
      · simp only [settleRetry, releaseHeld_standing]
        split <;> rfl
      · exact releaseHeld_standing _

theorem leavePaired_standing (s : State) : s.leavePaired.standing = s.standing := by
  rw [leavePaired, requestSweep_eq, setLink_eq]
  rfl

theorem stuckStation_standing (s : State) : s.stuckStation.standing = s.standing := by
  simp only [stuckStation]
  split
  case h_3 => exact leavePaired_standing _
  all_goals rfl

theorem logKind_standing (k : Kind) (s : State) : (s.logKind k).standing = s.standing := by
  rw [logKind_eq]; rfl

theorem settleShelf_standing (vIn : Nat) (s : State) : (s.settleShelf vIn).standing = s.standing := by
  rcases s.settleShelf_cases vIn with ⟨-, -, -, e⟩ | e <;> rw [e]
  rfl

/-! ### The steps of a stuck line -/

theorem abortRunning_none {s : State} (h : s.line.sending = none) : s.abortRunning = (s, false) := by
  simp [abortRunning, h]

theorem abortRunning_some {s : State} {k : PostKind} (h : s.line.sending = some k) :
    s.abortRunning = (s.echoed s.line.receiveBuffer).abortPost k := by
  simp [abortRunning, h, echoMismatch_eq]

theorem discardBuffer_line (heard : List Bool) (s : State) :
    (s.discardBuffer heard).line = { s.line with receiveBuffer := [], idleUs := 0, lowUs := 2001 } := by
  simp [discardBuffer]

/-- The line taken as stuck, with the transmission still running (R138 step 1). -/
def foundStuck (s : State) : State :=
  s.withLine { s.line with stuck := true, offering := false }

/-- The line silenced: the transmission abandoned, the buffer discarded (R138 steps 2 and 3). -/
def silenced (heard : List Bool) (s : State) : State :=
  s.foundStuck.abortRunning.1.discardBuffer heard

/-- LINE_STUCK logged, with its effect on the station, before a TX_FAIL (R167). -/
def stuckTaken (heard : List Bool) (s : State) : State :=
  ((s.silenced heard).logKind .lineStuck).stuckStation

theorem lineStuck_eq (heard : List Bool) (s : State) : s.lineStuck heard =
    if s.foundStuck.abortRunning.2 then (s.stuckTaken heard).logKind .txFail else s.stuckTaken heard := by
  simp only [lineStuck, raise_txFail, raise_degraded .lineStuck _ rfl]
  rfl

/-- The line controller of a stuck line, less its queue (R138). -/
def stuckLine : LineController :=
  { LineController.reset with stuck := true, lowUs := 2001 }

/-- The bits read stay in the buffer until it is discarded (R133). -/
theorem foundStuck_abandoned (s : State) :
    s.foundStuck.abortRunning.1.line.sending = none ∧
      s.foundStuck.abortRunning.1.line.receiveBuffer = s.line.receiveBuffer ∧
      s.foundStuck.abortRunning.1.line.offering = false ∧ s.foundStuck.abortRunning.1.line.stuck = true := by
  cases sending : s.line.sending with
  | none => rw [abortRunning_none (s := s.foundStuck) sending]; exact ⟨sending, rfl, rfl, rfl⟩
  | some k =>
    rw [abortRunning_some (s := s.foundStuck) sending]
    have bare := abortPost_bare k (s.foundStuck.echoed s.foundStuck.line.receiveBuffer)
    exact ⟨(congrArg LineController.sending bare :), (congrArg LineController.receiveBuffer bare :),
      (congrArg LineController.offering bare :), (congrArg LineController.stuck bare :)⟩

theorem silenced_bare (heard : List Bool) (s : State) : (s.silenced heard).line.bare = stuckLine := by
  obtain ⟨sending, -, offering, stuck⟩ := s.foundStuck_abandoned
  simp only [silenced, discardBuffer_line, LineController.bare, sending, offering, stuck]
  rfl

theorem silenced_log (heard : List Bool) (c : Class) (s : State) : (s.silenced heard).fault.log c = s.fault.log c := by
  simp only [silenced, discardBuffer, countIf_log, withLine_fault]
  cases sending : s.line.sending with
  | none => rw [abortRunning_none (s := s.foundStuck) sending]; rfl
  | some k => rw [abortRunning_some (s := s.foundStuck) sending, abortPost_log]; exact count_log _ _ _

theorem silenced_standing (heard : List Bool) (s : State) : (s.silenced heard).standing = s.standing := by
  have discarded (u : State) : (u.discardBuffer heard).standing = u.standing := by
    simp only [discardBuffer, countIf]
    split <;> rfl
  rw [silenced, discarded]
  cases sending : s.line.sending with
  | none => rw [abortRunning_none (s := s.foundStuck) sending]; rfl
  | some k => rw [abortRunning_some (s := s.foundStuck) sending, abortPost_standing]; rfl

theorem silenced_station (heard : List Bool) (s : State) : (s.silenced heard).station = s.station := by
  simp [silenced, foundStuck]

/-- The counter LINE once a transmission that was running has been abandoned (R133). -/
def abortCounted (s : State) : Counter :=
  if s.line.sending = none then s.fault.line else s.fault.line.bump

theorem foundStuck_counts {s : State} (four : s.line.waiting ≤ 4) :
    s.foundStuck.abortRunning.1.line.waiting ≤ s.line.waiting ∧
      s.foundStuck.abortRunning.1.fault.line = s.abortCounted := by
  cases sending : s.line.sending with
  | none =>
    rw [abortRunning_none (s := s.foundStuck) sending]
    exact ⟨le_rfl, by simp [abortCounted, sending, foundStuck]⟩
  | some k =>
    rw [abortRunning_some (s := s.foundStuck) sending]
    obtain ⟨fault, fewer⟩ := abortPost_fits k (s := s.foundStuck.echoed s.foundStuck.line.receiveBuffer) four
    exact ⟨fewer, by rw [fault, abortCounted, if_neg (by simp [sending])]; rfl⟩

/-- What is counted of the abort and of the bits heard (R133, R138). -/
theorem silenced_counts (heard : List Bool) {s : State} (four : s.line.waiting ≤ 4) :
    (s.silenced heard).line.waiting ≤ s.line.waiting ∧ (s.silenced heard).fault.line =
      if s.line.receiveBuffer ++ heard = [] then s.abortCounted else s.abortCounted.bump := by
  obtain ⟨fewer, counted⟩ := foundStuck_counts four
  obtain ⟨-, buffer, -, -⟩ := s.foundStuck_abandoned
  refine ⟨by rw [silenced, discardBuffer_line]; exact fewer, ?_⟩
  rw [← counted, ← buffer]
  simp only [silenced, discardBuffer]
  generalize s.foundStuck.abortRunning.1 = u
  cases u.line.receiveBuffer ++ heard with
  | nil => rfl
  | cons b bs => rfl

/-- Whether the abort removes the post in transmission (R133). -/
theorem foundStuck_removes (s : State) : s.foundStuck.abortRunning.2 = true ↔
    (s.line.sending = some .alert ∧ ∃ q rest, s.line.alerts = q :: rest ∧ 3 ≤ q.aborts) ∨
    (s.line.sending = some .state ∧ ∃ q, s.line.state = some q ∧ 3 ≤ q.aborts) ∨
    (s.line.sending = some .reply ∧ ∃ q rest, s.line.replies = q :: rest ∧ 3 ≤ q.aborts) := by
  cases sending : s.line.sending with
  | none => simp [abortRunning_none (s := s.foundStuck) sending]
  | some k =>
    rw [abortRunning_some (s := s.foundStuck) sending, abortPost_removed]
    simp only [Option.some.injEq]
    rfl

/-! ### The station machine and the queue -/

/-- The final STATE leaves the queue, or there is none in it (R142). -/
theorem failFinal_line_cases (s : State) : s.failFinal.line = s.line ∨
    s.failFinal.line = { s.line with
      state := none, sending := if s.line.sending = some .state then none else s.line.sending } := by
  cases state : s.line.state with
  | none => exact .inl (by simp [failFinal, state])
  | some q =>
    cases final : q.post.final
    · exact .inl (by simp [failFinal, state, final])
    · exact .inr (by simp [failFinal, state, final])

theorem stuckStation_shelf {s : State} (h : s.station.state = .shelf) : s.stuckStation = s.failFinal := by
  simp only [stuckStation, h]

theorem stuckStation_line {s : State} (h : s.station.state ≠ .shelf) : s.stuckStation.line = s.line := by
  cases state : s.station.state <;> simp_all [stuckStation]

/-- The station machine's part adds no post, and moves no more than the queue on a line at rest. -/
theorem stuckStation_queue {s : State} (idle : s.line.sending = none) :
    s.stuckStation.line.waiting ≤ s.line.waiting ∧ s.stuckStation.line.bare = s.line.bare := by
  by_cases shelf : s.station.state = .shelf
  · rw [stuckStation_shelf shelf]
    rcases s.failFinal_line_cases with e | e <;> rw [e]
    · exact ⟨le_rfl, rfl⟩
    · exact ⟨by simp [LineController.waiting], by simp [LineController.bare, idle]⟩
  · rw [stuckStation_line shelf]
    exact ⟨le_rfl, rfl⟩

/-- The state of the station after a stuck line (R156). -/
theorem stuckStation_station (s : State) :
    s.stuckStation.station.state = (if s.station.state = .paired then .solo else s.station.state) ∧
      (s.station.state ≠ .shelf → s.station.state ≠ .mute → s.stuckStation.station.stuckHold = true) ∧
      (s.station.state = .mute → s.stuckStation.station = s.station) ∧
      (s.station.state = .paired → s.stuckStation.apply.link = 0) ∧
      s.stuckStation.station.off = s.station.off := by
  cases h : s.station.state <;> simp [stuckStation, h, leavePaired, become]

/-! ### The event as a whole -/

/-- With no final STATE waiting none comes to wait by a kind logged (R140). -/
theorem logKind_finalWaiting (k : Kind) {s : State} (h : s.finalWaiting = false) : (s.logKind k).finalWaiting = false := by
  rcases logKind_state k s with e | e
  · simpa only [finalWaiting, e, logKind_round] using h
  · simp only [finalWaiting, e, logKind_round, Bool.false_or]
    exact (Bool.or_eq_false_iff.mp h).2

/-- The end of an event in SHELF leaves a stuck line as it is, less its queue (R159). -/
theorem settleShelf_bare (vIn : Nat) {s : State} (h : s.line.bare = stuckLine) :
    (s.settleShelf vIn).line.bare = stuckLine := by
  rcases s.settleShelf_cases vIn with ⟨-, -, -, e⟩ | e <;> rw [e]
  · have off : (s.switchOff vIn).line.bare =
        { s.line.bare with sending := none, offering := false, receiveBuffer := [] } := rfl
    rw [off, h]
    rfl
  · exact h

theorem settleShelf_log (vIn : Nat) (c : Class) (s : State) : (s.settleShelf vIn).fault.log c = s.fault.log c := by
  rcases s.settleShelf_cases vIn with ⟨-, -, -, e⟩ | e <;> rw [e]
  cases c <;> rfl

theorem settleShelf_counter (vIn : Nat) (s : State) : (s.settleShelf vIn).fault.line = s.fault.line := by
  rcases s.settleShelf_cases vIn with ⟨-, -, -, e⟩ | e <;> rw [e]
  rfl

theorem settleShelf_link (vIn : Nat) (s : State) : (s.settleShelf vIn).apply.link = s.apply.link := by
  rw [settleShelf_apply_rewrite]

theorem settleShelf_stuckHold (vIn : Nat) (s : State) : (s.settleShelf vIn).station.stuckHold = s.station.stuckHold := by
  rcases s.settleShelf_cases vIn with ⟨-, -, -, e⟩ | e <;> rw [e]
  rfl

section
variable (heard : List Bool) (vIn : Nat) (s : State)

/-- The log and its ALERT leave what the station machine has made of the event. -/
theorem lineStuck_blocks : (s.lineStuck heard).station = (s.stuckTaken heard).station ∧
    (s.lineStuck heard).apply = (s.stuckTaken heard).apply := by
  rw [lineStuck_eq]
  split
  · exact ⟨logKind_station _ _, logKind_apply _ _⟩
  · exact ⟨rfl, rfl⟩

theorem lineStuck_standing : (s.lineStuck heard).standing = s.standing := by
  have taken : (s.stuckTaken heard).standing = s.standing := by
    rw [stuckTaken, stuckStation_standing, logKind_standing, silenced_standing]
  rw [lineStuck_eq]
  split
  · rw [logKind_standing, taken]
  · exact taken

theorem lineStuck_bare : (s.lineStuck heard).line.bare = stuckLine := by
  have logged : ((s.silenced heard).logKind .lineStuck).line.bare = stuckLine := by rw [logKind_bare, silenced_bare]
  have taken : (s.stuckTaken heard).line.bare = stuckLine :=
    (stuckStation_queue (congrArg LineController.sending logged :)).2.trans logged
  rw [lineStuck_eq]
  split
  · rw [logKind_bare, taken]
  · exact taken

/-- The kinds logged (R133, R167). -/
theorem lineStuck_holds (j : Kind) : (s.lineStuck heard).fault.Holds j ↔
    s.fault.Holds j ∨ j = .lineStuck ∨ (j = .txFail ∧ s.foundStuck.abortRunning.2 = true) := by
  have taken : (s.stuckTaken heard).fault.Holds j ↔ s.fault.Holds j ∨ j = .lineStuck := by
    rw [stuckTaken, stuckStation_fault, logKind_holds]
    exact or_congr_left (FaultUnit.holds_congr (fun c => silenced_log heard c s) j)
  rw [lineStuck_eq]
  split
  · rename_i removed
    rw [logKind_holds, taken, or_assoc]
    simp [removed]
  · rename_i kept
    rw [taken]
    simp [kept]

/-- LINE_STUCK is the first record where its class had none (R167, R168). -/
theorem lineStuck_first (h : s.fault.degraded.first = none) :
    ∃ f, (s.lineStuck heard).fault.degraded.first = some f ∧ f.kind = .lineStuck := by
  have taken : ((s.stuckTaken heard).fault.log .degraded).first =
      some ((s.silenced heard).snapshot .lineStuck) := by
    rw [stuckTaken, stuckStation_fault]
    exact logKind_first_none (k := .lineStuck) ((congrArg ClassLog.first (silenced_log heard .degraded s)).trans h)
  refine ⟨(s.silenced heard).snapshot .lineStuck, ?_, rfl⟩
  rw [lineStuck_eq]
  split
  · exact logKind_first taken
  · exact taken

variable {s}

/-- In a queue of fewer than three nothing is displaced by the two ALERT posts (R140). -/
theorem lineStuck_counter (few : s.line.waiting < 3) : (s.lineStuck heard).fault.line =
    if s.line.receiveBuffer ++ heard = [] then s.abortCounted else s.abortCounted.bump := by
  obtain ⟨fewer, counted⟩ := silenced_counts heard (s := s) (by omega)
  obtain ⟨logged, joined⟩ := logKind_fits .lineStuck (s := s.silenced heard) (by omega)
  have idle : ((s.silenced heard).logKind .lineStuck).line.sending = none := by
    have bare : ((s.silenced heard).logKind .lineStuck).line.bare = stuckLine := by rw [logKind_bare, silenced_bare]
    exact (congrArg LineController.sending bare :)
  have left : (s.stuckTaken heard).line.waiting ≤ _ := (stuckStation_queue idle).1
  have taken : (s.stuckTaken heard).fault.line = (s.silenced heard).fault.line := by
    rw [stuckTaken, stuckStation_fault, logged]
  rw [← counted, ← taken, lineStuck_eq]
  split
  · exact (logKind_fits .txFail (by omega)).1
  · rfl

/-- In SHELF the final STATE fails, and the stages go off (R142, R159). -/
theorem lineStuck_shelf (shelf : s.station.state = .shelf) (on : s.station.off = false) :
    (s.lineStuck heard).settleShelf vIn = (s.lineStuck heard).switchOff vIn := by
  have logged : ((s.silenced heard).logKind .lineStuck).station = s.station := by rw [logKind_station, silenced_station]
  have failed : s.stuckTaken heard = ((s.silenced heard).logKind .lineStuck).failFinal :=
    stuckStation_shelf (by rwa [logged])
  have station : (s.lineStuck heard).station = s.station := by
    rw [(lineStuck_blocks heard s).1, failed, failFinal_station, logged]
  refine settleShelf_off vIn (by rwa [station]) (by rwa [station]) ?_
  have none : (s.stuckTaken heard).finalWaiting = false := failed ▸ failFinal_finalWaiting _
  rw [lineStuck_eq]
  split
  · exact logKind_finalWaiting .txFail none
  · exact none

end

end State
end Sys2Proof.Machine

open Sys2Proof Sys2Proof.Machine

/-- Settles O37: the steps are taken in the order of R138, LINE_STUCK before TX_FAIL, with SHELF settled last. -/
theorem lineStuckStops : Obligations.LineStuckStops := by
  intro heard vIn s on
  have next : exec (.lineStuck heard vIn) s = .next ((s.lineStuck heard).settleShelf vIn) := by
    simp [exec, execLineStuck, on]
  have bare := State.settleShelf_bare vIn (s.lineStuck_bare heard)
  have standing : ((s.lineStuck heard).settleShelf vIn).standing = s.standing := by
    rw [State.settleShelf_standing, State.lineStuck_standing]
  have holds (j : Kind) := (State.settleShelf_holds vIn j (s.lineStuck heard)).trans (s.lineStuck_holds heard j)
  obtain ⟨station, apply⟩ := s.lineStuck_blocks heard
  have before : ((s.silenced heard).logKind .lineStuck).station = s.station := by
    rw [State.logKind_station, State.silenced_station]
  obtain ⟨state, hold, mute, link, -⟩ := ((s.silenced heard).logKind .lineStuck).stuckStation_station
  rw [before] at state hold mute link
  refine ⟨_, next, (congrArg LineController.stuck bare :), (congrArg LineController.offering bare :),
    (congrArg LineController.sending bare :), (congrArg LineController.receiveBuffer bare :), (holds _).mpr (.inr (.inl rfl)),
    fun j => ?_, fun none => ?_, fun few => ?_, ?_, fun notShelf notMute => ?_, fun isMute => ?_, fun paired => ?_,
    fun shelf => ?_, (congrArg Standing.seq standing :), (congrArg Standing.sent standing :),
    (congrArg Standing.posted standing :), (congrArg Standing.proposal standing :), (congrArg Standing.draw standing :),
    (congrArg Standing.charge standing :), by simp, by simp, by simp, by simp, by simp, by simp, by simp, by simp,
    (congrArg Standing.channels standing :), (congrArg Standing.composed standing :)⟩
  · rw [holds j, State.foundStuck_removes]
  · obtain ⟨f, first, kind⟩ := s.lineStuck_first heard none
    exact ⟨f, (congrArg ClassLog.first (State.settleShelf_log vIn .degraded _)).trans first, kind⟩
  · rw [State.settleShelf_counter, State.lineStuck_counter heard few]
    rfl
  · rw [State.settleShelf_state, station]
    exact state
  · rw [State.settleShelf_stuckHold, station]
    exact hold notShelf notMute
  · have stays : (s.lineStuck heard).station = s.station := station.trans (mute isMute)
    rw [State.settleShelf_outside vIn _ (by simp [stays, isMute]), stays]
  · rw [State.settleShelf_link, apply]
    exact link paired
  · rw [State.lineStuck_shelf heard vIn shelf ((State.receiving_iff s).mp on).2]
    exact ⟨rfl, rfl⟩
end

section
/-!
SUPPORT. What the operations of the machine keep of the form of the hinge link stage (R80, R82), and every step.
-/

namespace Sys2Proof.Machine

theorem linkUnder_zero (x : Int) : linkUnder 0 x = 0 := by simp [linkUnder]

/-- The trip history stays at three stamps at most, each once (R80, R88). -/
theorem historyWith_form (stamp : Nat) {history : List Nat} (three : history.length ≤ 3) (once : history.Nodup) :
    (historyWith stamp history).length ≤ 3 ∧ (historyWith stamp history).Nodup := by
  by_cases known : stamp ∈ history
  · rw [historyWith, if_pos known]
    exact ⟨three, once⟩
  · rw [historyWith_new three known]
    have joined : (history ++ [stamp]).Nodup :=
      List.nodup_append.mpr ⟨once, by simp, fun a ha b hb same => known (List.mem_singleton.mp hb ▸ same ▸ ha)⟩
    exact ⟨by simp only [List.length_drop, List.length_append, List.length_singleton]; omega,
      joined.sublist (List.drop_sublist _ _)⟩

/-- What the form of the hinge link stage reads of a state. -/
structure Linkage where
  stage : LinkState
  barring : Barring
  history : List Nat
  link : Int

namespace State

/-- The linkage of a state. -/
def linkage (s : State) : Linkage where
  stage := s.hinge.link
  barring := s.hinge.barring
  history := s.hinge.history
  link := s.apply.link

/-- `t` keeps the hinge link stage of `s` in form. -/
def HingeKept (s t : State) : Prop :=
  s.HingeSound → t.HingeSound

theorem HingeKept.refl (s : State) : HingeKept s s := id

theorem HingeKept.trans {s t u : State} (h : HingeKept s t) (k : HingeKept t u) : HingeKept s u := k ∘ h

/-- A stage in form may be assumed. -/
theorem HingeKept.of_sound {s t : State} (h : s.HingeSound → HingeKept s t) : HingeKept s t := fun k => h k k

/-- The form speaks of the linkage alone. -/
theorem HingeKept.of_linkage {s t : State} (h : t.linkage = s.linkage) : HingeKept s t := by
  obtain ⟨stage, barring, history, link⟩ := (Linkage.mk.injEq ..).mp h
  intro sound
  simpa only [HingeSound, stage, barring, history, link] using sound

/-- What is kept from a state of the same linkage on. -/
theorem HingeKept.after {s t u : State} (k : HingeKept t u) (h : t.linkage = s.linkage) : HingeKept s u :=
  (HingeKept.of_linkage h).trans k

/-- What leaves the bearing and the stage keeps the form. -/
theorem HingeKept.of_bearing {s t : State} (bearing : t.bearing = s.bearing) (hinge : t.hinge = s.hinge) : HingeKept s t :=
  have link : t.apply.link = s.apply.link := congrArg Bearing.link bearing
  .of_linkage (by rw [linkage, hinge, link]; rfl)

/-! ### The applied link -/

/-- A stage that follows the applied link follows the next one too (R82). -/
theorem setLink_stage {x : Int} {s : State} (follows : s.hinge.link = linkStateOf s.apply.link) :
    (s.setLink x).hinge.link = linkStateOf x := by
  simp only [setLink]
  split
  · rename_i same
    rw [follows, same]
  · obtain ⟨-, -, -, link⟩ := HingeStage.hand_state x ((s.withApply { s.apply with link := x }).linkLimitOf x) s.hinge
    exact link.trans (if_neg (follows ▸ linkStateOf_ne_barred _))

/-- A link may be handed where no barring is asked to carry one (R72, R82). -/
theorem setLink_hingeKept {x : Int} {s : State} (h : s.hinge.link = .barred → x = 0) : HingeKept s (s.setLink x) := by
  rintro ⟨barred, barring, -, follows, three, once⟩
  rw [HingeSound, setLink_barring, setLink_history, setLink_barred_iff, setLink_link]
  exact ⟨barred, barring, h, fun unbarred => setLink_stage (follows ((setLink_barred_iff x s).not.mp unbarred)), three, once⟩

theorem setLink_zero_hingeKept (s : State) : HingeKept s (s.setLink 0) := setLink_hingeKept fun _ => rfl

/-- A full link judgement finds 0 in BARRED (R67). -/
theorem judgeLink_hingeKept (s : State) : HingeKept s s.judgeLink :=
  setLink_hingeKept fun barred => judgedLink_closed (.inr (.inr barred))

theorem setDraw_hingeKept (g : Nat) (s : State) : HingeKept s (s.setDraw g) :=
  .of_linkage (by rw [setDraw_eq]; rfl)

theorem setCharge_hingeKept (c : Nat) (s : State) : HingeKept s (s.setCharge c) :=
  .of_linkage (by rw [setCharge_eq]; rfl)

/-- A link of 0 stays 0 under any proposal, so none is handed in BARRED (R64). -/
theorem setLink_under_hingeKept (x : Int) (s : State) : HingeKept s (s.setLink (linkUnder s.apply.link x)) := by
  refine .of_sound fun sound => ?_
  obtain ⟨-, -, zero, -⟩ := sound
  exact setLink_hingeKept fun barred => by rw [zero barred, linkUnder_zero]

theorem replaceProposal_hingeKept (r : Setting) (code : Nat) (s : State) : HingeKept s (s.replaceProposal r code) := by
  have set : HingeKept s (s.withApply { s.apply with proposal := r, code := code }) := .of_linkage rfl
  exact ((set.trans (setDraw_hingeKept _ _)).trans (setCharge_hingeKept _ _)).trans (setLink_under_hingeKept _ _)

/-- The applied link handed again leaves the stage as it follows it (R59, R82). -/
theorem handAll_hingeKept (s : State) : HingeKept s s.handAll := by
  rintro ⟨barred, barring, zero, -, three, once⟩
  obtain ⟨barring', history, same⟩ := s.handAll_stage
  obtain ⟨-, -, -, link⟩ := HingeStage.hand_state s.apply.link (s.handDraw.handCharge.linkLimitOf s.apply.link) s.hinge
  rw [HingeSound, barring', history, same, handAll_apply]
  exact ⟨barred, barring, zero, fun unbarred => link.trans (if_neg (same.not.mp unbarred)), three, once⟩

/-! ### Sweeps and the log -/

theorem requestSweep_hingeKept (s : State) : HingeKept s s.requestSweep :=
  .of_linkage (by rw [requestSweep_eq]; rfl)

theorem requestSweepIf_hingeKept (b : Bool) (s : State) : HingeKept s (s.requestSweepIf b) := by
  cases b
  exacts [.refl s, requestSweep_hingeKept s]

theorem beginSweepIfNone_hingeKept (s : State) : HingeKept s s.beginSweepIfNone := by
  rw [beginSweepIfNone_eq]
  exact .of_linkage rfl

theorem logKind_hingeKept (k : Kind) (s : State) : HingeKept s (s.logKind k) :=
  .of_bearing (logKind_bearing k s) (logKind_hinge k s)

theorem settleShelf_hingeKept (vIn : Nat) (s : State) : HingeKept s (s.settleShelf vIn) :=
  .of_bearing (settleShelf_bearing vIn s) (settleShelf_hinge vIn s)

theorem endReception_hingeKept (s : State) : HingeKept s s.endReception := .of_linkage rfl

/-! ### Changes of station state -/

theorem become_hingeKept (st : StationState) (s : State) : HingeKept s (s.become st) := .of_linkage rfl

theorem enterLatched_hingeKept (s : State) : HingeKept s s.enterLatched := by
  have opened : HingeKept s (s.withFault { s.fault with dischargeClosed := false }) := .of_linkage rfl
  have unloaded := (opened.trans (setCharge_hingeKept 0 _)).trans (setLink_zero_hingeKept _)
  have latched (u : State) : HingeKept u
      (((u.withCharger u.charger.enterHoldOff).withPort u.port.abortProbe).become .latched) := .of_linkage rfl
  exact ((unloaded.trans (latched _)).trans (requestSweepIf_hingeKept _ _)).trans (requestSweep_hingeKept _)

theorem haltingEffect_hingeKept (s : State) : HingeKept s s.haltingEffect := by
  simp only [haltingEffect]
  split
  case h_1 | h_2 => exact enterLatched_hingeKept s
  case h_3 => exact .refl s
  case h_4 | h_6 => exact .of_linkage rfl
  case h_5 =>
    have opened : HingeKept s (s.withFault { s.fault with dischargeClosed := false }) := .of_linkage rfl
    have uncharged := opened.trans (setCharge_hingeKept 0 _)
    split
    exacts [uncharged, uncharged.trans (.of_linkage rfl)]

theorem raise_hingeKept (k : Kind) (s : State) : HingeKept s (s.raise k) := by
  simp only [raise]
  split
  exacts [(logKind_hingeKept k s).trans (haltingEffect_hingeKept _), logKind_hingeKept k s]

theorem raiseAll_hingeKept (ks : List Kind) (s : State) : HingeKept s (s.raiseAll ks) := by
  induction ks generalizing s with
  | nil => exact .refl s
  | cons k ks ih => exact (raise_hingeKept k s).trans (ih _)

theorem enterMute_hingeKept (s : State) : HingeKept s s.enterMute := by
  have silenced (u : State) : HingeKept u
      (((u.withLine { u.line.emptied with offering := false }).withRound { u.round with held := none }).withApply
        { u.apply with rewritePending := false }) := .of_linkage rfl
  exact (((become_hingeKept .mute s).trans (setLink_zero_hingeKept _)).trans (silenced _)).trans
    (requestSweepIf_hingeKept _ _)

theorem leavePaired_hingeKept (s : State) : HingeKept s s.leavePaired :=
  ((become_hingeKept .solo s).trans (setLink_zero_hingeKept _)).trans (requestSweep_hingeKept _)

theorem judgePartner_hingeKept (s : State) : HingeKept s s.judgePartner := by
  have crowd : HingeKept s s.judgeCrowd := .of_bearing (judgeCrowd_bearing s) (judgeCrowd_hinge s)
  rcases s.judgePartner_cases with e | e | e <;> rw [e]
  · exact crowd
  · exact (crowd.trans (become_hingeKept _ _)).trans (requestSweep_hingeKept _)
  · exact crowd.trans (leavePaired_hingeKept _)

/-! ### The own round, the release and the trip -/

/-- A stage as it was or opened from a barring, on an applied link of 0, is in form (R82, R90, R92). -/
theorem hingeRound_hingeKept (s : State) : HingeKept s s.hingeRound := by
  have counted : HingeKept s (s.withHinge s.hinge.ownRound.1) := by
    rintro ⟨barred, barring, zero, follows, three, once⟩
    simp only [HingeStage.ownRound]
    split
    · rename_i n left
      have isBarred : s.hinge.link = .barred := barred.mpr (by simp [left])
      split
      · simp [HingeSound, zero isBarred, linkStateOf, three, once]
      · rename_i more
        have few : n + 1 ≤ 8 := by
          simp [left] at barring
          omega
        exact ⟨by simp [isBarred, more], .inr ⟨n, by simp; omega, rfl⟩, zero, follows, three, once⟩
    · exact ⟨barred, barring, zero, follows, three, once⟩
  simp only [hingeRound]
  split
  exacts [counted.trans (judgeLink_hingeKept _), counted]

theorem releaseHinge_hingeKept (s : State) : HingeKept s s.releaseHinge := by
  have cleared : HingeKept s (s.withHinge s.hinge.release.1) := by
    rintro ⟨barred, barring, zero, follows, -⟩
    simp only [HingeStage.release]
    split
    · exact ⟨barred, barring, zero, follows, by simp, by simp⟩
    · rename_i isBarred
      simp [HingeSound, zero (barred.mpr isBarred), linkStateOf]
  simp only [releaseHinge]
  split
  exacts [cleared.trans (judgeLink_hingeKept _), cleared]

/-- A trip bars the stage, and the link is opened after it (R72, R88, R89). -/
theorem hingeTrip_hingeKept (s : State) : HingeKept s s.hingeTrip := by
  rintro ⟨-, -, -, -, three, once⟩
  obtain ⟨three', once'⟩ := historyWith_form s.round.stamp three once
  rw [HingeSound, hingeTrip_eq, setLink_barring, setLink_history, setLink_barred_iff, setLink_link, tripped_hinge]
  refine ⟨?_, ?_, fun _ => rfl, fun unbarred => absurd ?_ unbarred, three', once'⟩
  · simp only [HingeStage.trip]
    split <;> simp
  · simp only [HingeStage.trip]
    split <;> simp
  · rw [setLink_barred_iff, tripped_hinge]
    rfl

theorem agePeers_hingeKept (s : State) : HingeKept s s.agePeers := by
  have aged : HingeKept s s.peersAged := .of_linkage (by simp [linkage])
  rw [agePeers_eq]
  exact aged.trans (judgePartner_hingeKept _)

theorem ownRound_hingeKept (s : State) : HingeKept s s.ownRound := by
  have counted : HingeKept s s.roundCounted := .of_linkage rfl
  rw [ownRound_eq]
  exact ((counted.trans (agePeers_hingeKept _)).trans (hingeRound_hingeKept _)).trans (beginSweepIfNone_hingeKept _)

/-! ### The start -/

theorem enterReady_hingeKept (s : State) : HingeKept s s.enterReady := by
  have marks : HingeKept s (s.withStation { s.station with latchPending := false, mutePending := false }) :=
    .of_linkage rfl
  simp only [enterReady]
  refine marks.trans ?_
  split
  · exact enterMute_hingeKept _
  · split
    exacts [enterLatched_hingeKept _, become_hingeKept _ _]

theorem ready_hingeKept (s : State) : HingeKept s s.ready := by
  have timed (u : State) (v : RoundUnit) : HingeKept u (u.withRound v) := .of_linkage rfl
  have offered (u : State) (l : LineController) : HingeKept u (u.withLine l) := .of_linkage rfl
  simp only [ready]
  generalize hu : requestSweep _ = u
  have requested : HingeKept s u := hu ▸ ((enterReady_hingeKept s).trans (timed _ _)).trans (requestSweep_hingeKept _)
  split
  exacts [(requested.trans (offered _ _)).trans (judgePartner_hingeKept _), requested.trans (offered _ _)]

theorem endListen_hingeKept (s : State) : HingeKept s s.endListen := by
  have listened (u : State) (v : StartSequencer) (ms : Nat) : HingeKept u ((u.advance ms).withStart v) :=
    .of_linkage rfl
  exact (listened s _ _).trans (ready_hingeKept _)

theorem endStraps_hingeKept (s0 s1 s2 s3 : Fin 16) (foldHigh : Bool) (s : State) :
    HingeKept s (s.endStraps s0 s1 s2 s3 foldHigh) := by
  simp only [endStraps]
  split
  exacts [(raise_hingeKept _ _).after rfl, .of_linkage rfl]

theorem endProfile_hingeKept (packId vCell : Nat) (s : State) : HingeKept s (s.endProfile packId vCell) := by
  simp only [endProfile]
  split
  exacts [(raise_hingeKept _ _).after rfl, .of_linkage rfl]

theorem endCellCheck_hingeKept (vCell : Nat) (tCell : Int) (s : State) : HingeKept s (s.endCellCheck vCell tCell) := by
  simp only [endCellCheck]
  split
  exacts [.of_linkage rfl, (raise_hingeKept _ _).after rfl]

/-- After any reset the stage is open, unbarred, with no trip behind it (R80). -/
theorem reset_hingeKept {s t : State} (hinge : t.hinge = .reset) (apply : t.apply = .reset) : HingeKept s t := by
  have sound : State.reset.HingeSound := by decide
  exact fun _ => HingeKept.of_linkage (s := .reset) (by rw [linkage, hinge, apply]; rfl) sound

/-! ### The sweep -/

theorem sweepHinge_hingeKept (s : State) : HingeKept s s.sweepHinge := by
  have checked : HingeKept s (s.withHinge (s.hinge.check s.round.channels.iHinge).1) := by
    rw [hingeCheck_eq]
    exact .of_linkage rfl
  have held (u : State) : HingeKept u ((u.count .linkUnanswered).withApply
      { (u.count .linkUnanswered).apply with unansweredHold := true }) := .of_linkage rfl
  simp only [sweepHinge]
  split
  exacts [(checked.trans (held _)).trans (setLink_zero_hingeKept _), checked]

/-- Steps 1 to 4 of a sweep's completion (R5). -/
theorem sweptStages_hingeKept (r : Readings) (s : State) : HingeKept s (s.sweptStages r) := by
  have measured : HingeKept s (s.swept r) := .of_bearing (swept_bearing r s) (swept_hinge r s)
  have port (u : State) : HingeKept u u.sweepPort := (requestSweepIf_hingeKept _ _).after rfl
  exact (measured.trans (port _)).trans (sweepHinge_hingeKept _)

/-- And step 5. -/
theorem sweptRaised_hingeKept (r : Readings) (s : State) : HingeKept s (s.sweptRaised r) :=
  (sweptStages_hingeKept r s).trans (raiseAll_hingeKept _ _)

theorem recordedL_hingeKept (s : State) : HingeKept s s.recordedL :=
  .of_bearing (recordL_bearing _ _ s) (recordL_hinge _ _ s)

/-- The composition run with its reports, before the setpoints are handed over (R5 steps 6 and 7). -/
theorem runReported_hingeKept (s : State) :
    HingeKept s (s.shortfallReported.countIf s.compositionRun.2.unordered .allotUnordered) := by
  have run : HingeKept s.recordedL s.runTaken := (replaceProposal_hingeKept _ _ _).trans (.of_linkage rfl)
  have reported : HingeKept s.runTaken s.shortfallReported := by
    simp only [shortfallReported]
    split
    exacts [raise_hingeKept _ _, .refl _]
  exact (((recordedL_hingeKept s).trans run).trans reported).trans (.of_bearing (countIf_bearing _ _ _) (countIf_hinge _ _ _))

theorem readyToCompose_hingeKept (s : State) : HingeKept s s.readyToCompose :=
  (runReported_hingeKept s).trans (handAll_hingeKept _)

theorem completeSweep_hingeKept (r : Readings) (s : State) : HingeKept s (s.completeSweep r) := by
  obtain ⟨-, apply, hinge, -⟩ := completeSweep_blocks r s
  exact ((sweptRaised_hingeKept r s).trans (readyToCompose_hingeKept _)).trans
    (.of_linkage (by rw [linkage, hinge, apply]; rfl))

/-! ### Posts heard -/

theorem arrivalRunIfDue_hingeKept (s : State) : HingeKept s s.arrivalRunIfDue := by
  simp only [arrivalRunIfDue]
  split
  · exact .refl s
  · split
    · rw [arrivalRun_eq]
      refine (replaceProposal_hingeKept _ _ s).trans (.of_bearing ((countIf_bearing _ _ _).trans (servePost_bearing _ _ _)) ?_)
      simp [runReplaced]
    · exact .refl s

theorem serveArrival_hingeKept (s : State) : HingeKept s s.serveArrival := by
  have freed : HingeKept s s.freed := .of_linkage rfl
  rw [serveArrival_eq]
  exact (freed.trans (arrivalRunIfDue_hingeKept _)).trans (judgeLink_hingeKept _)

theorem takeArrival_hingeKept (source : BitVec 3) (post : StatePost) (s : State) :
    HingeKept s (s.takeArrival source post) := by
  have counted : HingeKept s (s.count .lineCrc) := .of_linkage rfl
  have taken (st : StationState) : HingeKept s (s.takeEntry source post st) := by
    have written : HingeKept s (s.entryWritten source post st) :=
      .of_linkage (by simp [linkage, entryWritten])
    rw [takeEntry_eq]
    exact written.trans (judgePartner_hingeKept _)
  simp only [takeArrival]
  split
  · exact counted
  · split
    · split
      exacts [(taken _).trans (serveArrival_hingeKept _), taken _]
    · exact counted

theorem takeClash_hingeKept (s : State) : HingeKept s s.takeClash := by
  simp only [takeClash]
  refine ((endReception_hingeKept s).trans (raise_hingeKept .addressClash _)).trans ?_
  generalize s.endReception.raise .addressClash = u
  simp only [clash]
  split
  case h_1 => exact .of_linkage rfl
  case h_5 | h_6 => exact .refl u
  all_goals exact enterMute_hingeKept u

/-- A QUERY's item changes nothing but flags and fault unit (R180). -/
theorem item_blocks (item argument : Byte) (s : State) : (s.item item argument).1 =
    { s with accrued := (s.item item argument).1.accrued, fault := (s.item item argument).1.fault } := by
  have named (i : Byte) (act : Class → State × ReplyContents)
      (h : ∀ c, (act c).1 = { s with accrued := (act c).1.accrued, fault := (act c).1.fault }) :
      (classItem i argument s act).1 = { s with
        accrued := (classItem i argument s act).1.accrued, fault := (classItem i argument s act).1.fault } := by
    simp only [classItem]
    split
    exacts [rfl, h _]
  simp only [State.item]
  split
  case h_1 => exact named _ _ fun _ => rfl
  case h_2 => exact named _ _ fun _ => rfl
  case h_5 => exact named _ _ fun _ => rfl
  all_goals rfl

theorem item_hingeKept (item argument : Byte) (s : State) : HingeKept s (s.item item argument).1 := by
  rw [item_blocks]
  exact .of_linkage rfl

theorem takeQuery_hingeKept (target : Byte) {act : State → State × ReplyContents} (h : ∀ s, HingeKept s (act s).1)
    (s : State) : HingeKept s (s.takeQuery target act) := by
  have heard := endReception_hingeKept s
  cases hr : s.receiving
  · rw [takeQuery, hr]; exact .refl s
  · rcases s.takeQuery_cases target act hr with ⟨-, e⟩ | ⟨-, -, e⟩ | ⟨-, -, e⟩ <;> rw [e]
    · exact heard
    · exact heard.trans (.of_bearing (count_bearing _ _) (count_hinge _ _))
    · exact (heard.trans (h _)).trans (.of_bearing (handReply_bearing _ _) (handReply_hinge _ _))

/-! ### Orders -/

theorem enterShelf_hingeKept (s : State) : HingeKept s s.enterShelf := by
  have rested (u : State) (v : StationState) (w : RoundUnit) : HingeKept u
      (((u.become v).withRound w).withApply { u.apply with proposal := .zero, code := 0 }) := .of_linkage rfl
  have unloaded : HingeKept s s.unloaded :=
    (((rested s _ _).trans (setDraw_hingeKept 0 _)).trans (setCharge_hingeKept 0 _)).trans (setLink_zero_hingeKept _)
  have shelved : HingeKept s.unloaded s.shelved := .of_linkage rfl
  rw [enterShelf_eq]
  exact (unloaded.trans shelved).trans (.of_linkage (by simp [linkage]))

theorem shelfOrder_hingeKept (vIn : Nat) (s : State) : HingeKept s (s.shelfOrder vIn) := by
  simp only [shelfOrder]
  split
  exacts [(enterShelf_hingeKept s).trans (settleShelf_hingeKept _ _), .refl s]

theorem leaveLatched_hingeKept (s : State) : HingeKept s s.leaveLatched := by
  have closed : HingeKept s ((s.withFault { s.fault with dischargeClosed := true }).become .solo) :=
    .of_linkage rfl
  have judged := (closed.trans (requestSweep_hingeKept _)).trans (judgePartner_hingeKept _)
  have charged (u : State) (c : Charger) : HingeKept u (u.withCharger c) := .of_linkage rfl
  have probed (u : State) (p : InputPort) : HingeKept u (u.withPort p) := .of_linkage rfl
  exact ((judged.trans (charged _ _)).trans (releaseHinge_hingeKept _)).trans (probed _ _)

theorem releaseOrder_hingeKept (s : State) : HingeKept s s.releaseOrder := by
  simp only [releaseOrder]
  split
  case h_2 | h_3 => exact releaseHinge_hingeKept s
  case h_4 =>
    split
    exacts [leaveLatched_hingeKept s, .refl s]
  all_goals exact .refl s

theorem takeLimit_hingeKept (post : LimitPost) (vIn : Nat) (s : State) : HingeKept s (s.takeLimit post vIn) := by
  have stored (contract : Option Nat) : HingeKept s (s.storeContract contract) := by
    simp only [storeContract]
    split
    exacts [.of_linkage rfl, (setDraw_hingeKept _ _).after rfl]
  have policy (u : State) (p : Policy) : HingeKept u (u.withPolicy p) := .of_linkage rfl
  simp only [takeLimit]
  generalize hu : requestSweep _ = u
  have requested : HingeKept s u := hu ▸ ((stored _).trans (policy _ _)).trans (requestSweep_hingeKept _)
  cases orderStored post.order
  exacts [requested, requested.trans (shelfOrder_hingeKept vIn _), requested.trans (releaseOrder_hingeKept _)]

/-! ### The line -/

theorem takeSent_hingeKept (p : Setting) (s : State) : HingeKept s (s.takeSent p) := by
  have posted : HingeKept s (s.withApply { s.apply with posted := some p }) := .of_linkage rfl
  simp only [takeSent]
  refine HingeKept.trans ?_ (judgeLink_hingeKept _)
  generalize hu : State.setDraw _ _ = u
  have drawn : HingeKept s u := hu ▸ posted.trans (setDraw_hingeKept _ _)
  split
  exacts [drawn, drawn.trans (setCharge_hingeKept _ _)]

theorem ownStateSent_hingeKept (q : Queued OwnState) (s : State) : HingeKept s (s.ownStateSent q) := by
  have left : HingeKept s (s.posting q) := .of_linkage rfl
  have taken := left.trans (takeSent_hingeKept q.post.contents.setting _)
  have sent : HingeKept ((s.posting q).takeSent q.post.contents.setting) (s.sent q) := .of_linkage rfl
  rw [ownStateSent_eq]
  exact (taken.trans sent).trans (.of_bearing (releaseHeld_bearing _) (releaseHeld_hinge _))

theorem echoAbort_hingeKept (k : PostKind) (read : List Bool) (s : State) : HingeKept s (s.echoAbort k read) := by
  have aborted : HingeKept s (s.echoMismatch k read).1 :=
    .of_bearing (echoMismatch_bearing k read s) (echoMismatch_fst_hinge k read s)
  simp only [echoAbort]
  split
  exacts [aborted.trans (raise_hingeKept _ _), aborted]

theorem stuckStation_hingeKept (s : State) : HingeKept s s.stuckStation := by
  have held : HingeKept s (s.withStation { s.station with stuckHold := true }) := .of_linkage rfl
  simp only [stuckStation]
  split
  case h_3 => exact held.trans (leavePaired_hingeKept _)
  case h_5 => exact .of_bearing (failFinal_bearing s) (failFinal_hinge s)
  case h_6 => exact .refl s
  all_goals exact held

theorem lineStuck_hingeKept (heard : List Bool) (s : State) : HingeKept s (s.lineStuck heard) := by
  have stuck : HingeKept s (s.withLine { s.line with stuck := true, offering := false }) := .of_linkage rfl
  have stopped (u : State) : HingeKept u (u.abortRunning.1.discardBuffer heard) :=
    .of_bearing ((discardBuffer_bearing _ _).trans (abortRunning_bearing u)) (by simp)
  have done := ((stuck.trans (stopped _)).trans (raise_hingeKept .lineStuck _)).trans (stuckStation_hingeKept _)
  simp only [lineStuck]
  split
  exacts [done.trans (raise_hingeKept _ _), done]

theorem tripCell_hingeKept (vCell : Nat) (iCell : Int) (s : State) : HingeKept s (s.tripCell vCell iCell) :=
  (raiseAll_hingeKept _ _).after rfl

theorem inputOvervolt_hingeKept (s : State) : HingeKept s s.inputOvervolt := by
  have left : HingeKept s (s.withPort (s.port.leave .blocked)) := .of_linkage rfl
  exact (left.trans (requestSweepIf_hingeKept _ _)).trans (raise_hingeKept _ _)

/-! ### Every command -/

theorem exec_hingeKept {c : Instr} {s t : State} (h : exec c s = .next t) : HingeKept s t := by
  cases c
  case powerOnReset | warmReset => cases h; exact reset_hingeKept rfl rfl
  case resetNRise => cases h; split; exacts [.refl s, .of_linkage rfl]
  case strapsComplete => cases h; split; exacts [endStraps_hingeKept _ _ _ _ _ s, .refl s]
  case profileComplete => cases h; split; exacts [endProfile_hingeKept _ _ s, .refl s]
  case cellCheckComplete => cases h; split; exacts [endCellCheck_hingeKept _ _ s, .refl s]
  case listenEnd => cases h; split; exacts [endListen_hingeKept s, .refl s]
  case ownRoundExpiry => cases h; split; exacts [.refl s, (ownRound_hingeKept _).after rfl]
  case sweepComplete => cases h; split; exacts [completeSweep_hingeKept _ s, .refl s]
  case foldEdge =>
    cases h; split
    · exact .of_linkage rfl
    · split
      exacts [reset_hingeKept rfl rfl, (requestSweepIf_hingeKept _ _).after rfl]
  case foldWindowExpiry => cases h; split; exacts [.refl s, (requestSweep_hingeKept _).after rfl]
  case stateArrival source post vIn =>
    cases h; split
    · exact .refl s
    · split
      · exact takeClash_hingeKept s
      · split
        exacts [endReception_hingeKept s,
          ((endReception_hingeKept s).trans (takeArrival_hingeKept _ _ _)).trans (settleShelf_hingeKept _ _)]
  case limit post vIn =>
    cases h; split
    · exact .refl s
    · split
      exacts [(endReception_hingeKept s).trans (takeLimit_hingeKept _ _ _), endReception_hingeKept s]
  case shelfOrder => cases h; exact shelfOrder_hingeKept _ s
  case release => cases h; exact releaseOrder_hingeKept s
  case readFirst target argument => cases h; exact takeQuery_hingeKept _ (item_hingeKept 1 argument) s
  case readNext target argument => cases h; exact takeQuery_hingeKept _ (item_hingeKept 2 argument) s
  case clearLog target argument => cases h; exact takeQuery_hingeKept _ (item_hingeKept 5 argument) s
  case badItem => cases h; exact takeQuery_hingeKept _ (item_hingeKept _ _) s
  case readCounters | readFlags | clearCounters | ackPin | readProfile | readStart =>
    cases h; exact takeQuery_hingeKept _ (fun _ => .of_linkage rfl) s
  case addressClash => cases h; split; exacts [takeClash_hingeKept s, .refl s]
  case invalidPost =>
    cases h; split
    exacts [(endReception_hingeKept s).trans (.of_bearing (countIf_bearing _ _ _) (countIf_hinge _ _ _)), .refl s]
  case discardedPost => cases h; split; exacts [endReception_hingeKept s, .refl s]
  case lineIdle => cases h; split; exacts [.of_bearing (lineIdle_bearing s) (lineIdle_hinge s), .refl s]
  case ownStateSent => cases h; split; exacts [(ownStateSent_hingeKept _ s).trans (settleShelf_hingeKept _ _), .refl s]
  case lostArbitration =>
    cases h; split
    case h_1 => exact .refl s
    case h_2 => exact .of_bearing ((settleRetry_bearing _).trans (stopSending_bearing _ s)) (by simp)
    all_goals exact .of_bearing (stopSending_bearing _ s) (stopSending_hinge _ s)
  case echoAbort => cases h; split; exacts [.refl s, (echoAbort_hingeKept _ _ s).trans (settleShelf_hingeKept _ _)]
  case lineStuck => cases h; split; exacts [(lineStuck_hingeKept _ s).trans (settleShelf_hingeKept _ _), .refl s]
  case shelfWaitExpiry =>
    cases h; split
    · exact .refl s
    · have waited (ms : Nat) : HingeKept s (s.advance ms) := .of_linkage rfl
      split
      exacts [((waited _).trans (.of_bearing (failFinal_bearing _) (failFinal_hinge _))).trans (settleShelf_hingeKept _ _),
        .refl s]
  case wakeEvent => cases h; split; exacts [reset_hingeKept rfl rfl, .refl s]
  case undervoltageTrip => cases h; split; exacts [(requestSweep_hingeKept _).after rfl, .refl s]
  case inputOvervolt => cases h; split; exacts [(inputOvervolt_hingeKept s).trans (settleShelf_hingeKept _ _), .refl s]
  case hingeTrip => cases h; split; exacts [(hingeTrip_hingeKept s).trans (settleShelf_hingeKept _ _), .refl s]
  case thresholdLowering => cases h; split; exacts [.refl s, .of_linkage rfl]
  case cellOvervolt | cellOvercurrent =>
    cases h; split; exacts [(tripCell_hingeKept _ _ s).trans (settleShelf_hingeKept _ _), .refl s]
  case alertSent | replySent | wakeWaitingForHigh | probeStepEnd | probeComparatorTrip =>
    cases h; split; exacts [.of_linkage rfl, .refl s]
  case comparatorNoLongerAsserted => cases h; exact .of_linkage rfl

theorem tick_hingeKept (s : State) : HingeKept s s.tick := by
  have edge : HingeKept s s.otherEdge := .of_bearing (otherEdge_bearing s) (otherEdge_hinge s)
  simp only [tick]
  refine edge.trans ?_
  split <;> exact .of_linkage rfl

theorem step_hingeKept {s t : State} (h : step s = .next t) : HingeKept s t := by
  have taken (rest : List Instr) : HingeKept s (s.withPending rest) := .of_linkage rfl
  simp only [step] at h
  split at h
  · cases h; exact tick_hingeKept s
  · exact (taken _).trans (exec_hingeKept h)

end State
end Sys2Proof.Machine

open Sys2Proof Sys2Proof.Machine

/-- Settles O57: a barring begins with the link opened and ends on a link of 0, and every other link handed moves the stage. -/
theorem stepKeepsHinge : Obligations.StepKeepsHinge :=
  fun _ _ sound h => State.step_hingeKept h sound
end

section
/-!
SUPPORT. The trip threshold (R87).
-/

namespace Sys2Proof.Machine

theorem HingeStage.takeLimit_raised {limit : Nat} {h : HingeStage} (up : h.limit < limit) :
    h.takeLimit limit = { h with limit := limit, threshold := tripThreshold limit, lowering := none } :=
  if_pos up

theorem HingeStage.takeLimit_lowered {limit : Nat} {h : HingeStage} (down : limit < h.limit) :
    h.takeLimit limit = { h with limit := limit, lowering := some 2 } :=
  (if_neg down.not_gt).trans (if_pos down)

end Sys2Proof.Machine

open Sys2Proof Sys2Proof.Machine

/-- Settles O42: the time left that passes moves the lowering alone of the stage. -/
theorem tripThreshold : Obligations.TripThreshold := by
  intro limit h left s
  refine ⟨fun up => ?_, fun down => ?_, ?_, fun lowering => ?_⟩
  · rw [HingeStage.takeLimit_raised up]
    exact ⟨rfl, rfl⟩
  · rw [HingeStage.takeLimit_lowered down]
    exact ⟨rfl, rfl⟩
  · rw [HingeStage.takeLimit_eq]
  · refine ⟨(s.advance left).withHinge (s.advance left).hinge.lowerThreshold, ?_, rfl, rfl, rfl, rfl, rfl, rfl, rfl, rfl, rfl,
      rfl, rfl, rfl⟩
    simp [exec, execThresholdLowering, lowering]
end

section
/-!
SUPPORT. RELEASE: the partner judgement out of SOLO, the release of the hinge link stage, and what leaves LATCHED (R92, R110,
R126, R158, R172).
-/

namespace Sys2Proof.Machine

namespace State

/-! ### What the fault unit keeps as kinds are logged -/

/-- An ALERT handed to the queue is at most counted in LINE (R140). -/
theorem handAlert_fault (a : AlertContents) (s : State) :
    (s.handAlert a).fault = { s.fault with line := (s.handAlert a).fault.line } := by
  simp only [handAlert, countIf]
  repeat' split
  all_goals rfl

/-- So is an own STATE (R140). -/
theorem handState_fault (p : OwnState) (s : State) :
    (s.handState p).fault = { s.fault with line := (s.handState p).fault.line } := by
  simp only [handState, countIf]
  repeat' split
  all_goals rfl

/-- Logging a kind writes the log, the pin and, by TX_DROP, the counter LINE (R140, R167, R170). -/
theorem logKind_fault (k : Kind) (s : State) : (s.logKind k).fault = { s.fault with
    halting := (s.logKind k).fault.halting, degraded := (s.logKind k).fault.degraded
    fltAsserted := (s.logKind k).fault.fltAsserted, line := (s.logKind k).fault.line } := by
  have logged (log : ClassLog) (pin : Bool) : { s.fault.withLog k.severity log with fltAsserted := pin } = { s.fault with
      halting := (s.fault.withLog k.severity log).halting, degraded := (s.fault.withLog k.severity log).degraded
      fltAsserted := pin, line := (s.fault.withLog k.severity log).line } := by
    cases k.severity <;> rfl
  simp only [logKind]
  split
  · rfl
  · split
    · exact logged _ _
    · rw [handAlert_fault, withFault_fault, logged]

/-! ### The partner judgement out of SOLO -/

theorem judgePartner_fault (s : State) : s.judgePartner.fault = s.judgeCrowd.fault := by
  rcases s.judgePartner_cases with e | e | e <;> rw [e] <;> simp

/-- CROWD is the only kind it may log, and it logs it at the rise of the crowd mark alone (R155). -/
theorem judgeCrowd_logs (s : State) : s.judgeCrowd.fault = s.fault ∨
    s.station.crowd = false ∧ s.judgeCrowd = (s.withStation { s.station with crowd := true }).logKind .crowd := by
  simp only [judgeCrowd]
  split
  · split
    · exact .inl rfl
    · rename_i unmarked
      exact .inr ⟨by simpa using unmarked, rfl⟩
  · exact .inl rfl

theorem judgePartner_counters (s : State) : s.judgePartner.fault.dischargeClosed = s.fault.dischargeClosed ∧
    s.judgePartner.fault.link = s.fault.link ∧ s.judgePartner.fault.allot = s.fault.allot ∧
      s.judgePartner.fault.gauge = s.fault.gauge := by
  rw [judgePartner_fault]
  rcases s.judgeCrowd_logs with e | ⟨-, e⟩ <;> rw [e]
  · exact ⟨rfl, rfl, rfl, rfl⟩
  · rw [logKind_fault]; exact ⟨rfl, rfl, rfl, rfl⟩

/-- In a crowd already marked nothing is logged (R155). -/
theorem judgePartner_marked {s : State} (crowd : s.station.crowd = true) : s.judgePartner.fault = s.fault := by
  rw [judgePartner_fault]
  exact s.judgeCrowd_logs.resolve_right fun rise => by simp [crowd] at rise

/-- SOLO is left for PAIRED with a partner and without stuck hold (R155, R157). -/
theorem judgePartner_solo {s : State} (solo : s.station.state = .solo) : s.judgePartner =
    if s.partner.isSome && !s.station.stuckHold then (s.judgeCrowd.become .paired).requestSweep else s.judgeCrowd := by
  have partner : s.judgeCrowd.partner = s.partner := by simp [State.partner]
  simp only [judgePartner, judgeCrowd_station, solo, partner, true_and, reduceCtorEq, false_and, if_false,
    Bool.and_eq_true]
  rfl

/-- Out of SOLO the judgement moves no link (R155, R73). -/
theorem judgePartner_solo_stages {s : State} (solo : s.station.state = .solo) :
    s.judgePartner.apply = s.apply ∧ s.judgePartner.hinge.link = s.hinge.link := by
  rw [judgePartner_solo solo]
  split
  · rw [requestSweep_eq]
    simp
  · simp

/-! ### The release of the hinge link stage -/

theorem releaseHinge_unbarred {s : State} (free : s.hinge.barring = .rounds 0) :
    s.releaseHinge = { s with hinge := { s.hinge with history := [] } } := by
  simp [releaseHinge, HingeStage.release, free, withHinge]

/-- A barring cleared opens the stage, and the link is judged (R92). -/
theorem releaseHinge_barred {s : State} (barred : s.hinge.barring ≠ .rounds 0) : s.releaseHinge =
    (s.withHinge { s.hinge with barring := .rounds 0, history := [], link := .opened }).judgeLink := by
  simp [releaseHinge, HingeStage.release, barred]

/-- The release writes the stage and the link alone. -/
theorem releaseHinge_eq (s : State) : s.releaseHinge = { s with
    hinge := s.releaseHinge.hinge
    apply := { s.apply with link := s.releaseHinge.apply.link, linkMa := s.releaseHinge.apply.linkMa } } := by
  by_cases free : s.hinge.barring = .rounds 0
  · rw [releaseHinge_unbarred free]
  · rw [releaseHinge_barred free, judgeLink, setLink_eq]
    rfl

theorem releaseHinge_clears (s : State) : s.releaseHinge.hinge.barring = .rounds 0 ∧ s.releaseHinge.hinge.history = [] := by
  by_cases free : s.hinge.barring = .rounds 0
  · rw [releaseHinge_unbarred free]
    exact ⟨free, rfl⟩
  · rw [releaseHinge_barred free]
    exact ⟨setLink_barring _ _, setLink_history _ _⟩

/-- With no link applied the stage released stands as it was, or follows the link judged (R82, R92). -/
theorem releaseHinge_link {s : State} (zero : s.apply.link = 0) : s.releaseHinge.hinge.link =
    if s.hinge.barring = .rounds 0 then s.hinge.link else linkStateOf s.releaseHinge.apply.link := by
  by_cases free : s.hinge.barring = .rounds 0
  · rw [if_pos free, releaseHinge_unbarred free]
  · rw [if_neg free, releaseHinge_barred free, judgeLink_link]
    exact setLink_stage (by rw [withHinge_apply, zero]; rfl)

/-! ### RELEASE in LATCHED -/

/-- The conditions of R172, on the readings themselves. -/
theorem releaseAccepted_iff (s : State) : s.releaseAccepted = true ↔ ∃ v t2 : Int,
    s.round.channels.vCell = ⟨true, some v⟩ ∧ s.round.channels.tCell = ⟨true, some t2⟩ ∧
    (s.profile.cutoffMv : Int) - 200 ≤ v ∧ v ≤ s.profile.chargeMv + 100 ∧ t2 ≤ 110 ∧
    s.fault.overvoltAsserted = false ∧ s.fault.overcurrentAsserted = false := by
  have measured (c : Channel) (p : Int → Prop) :
      (c.held.isSome = true ∧ c.plausible = true ∧ p c.value) ↔ ∃ x, c = ⟨true, some x⟩ ∧ p x := by
    obtain ⟨plausible, held⟩ := c
    cases held <;> simp [Channel.value]
  have deep : 200 ≤ s.profile.cutoffMv := by
    have rows (n : Fin 9) : 200 ≤ (profileRow n).cutoffMv := by fin_cases n <;> simp [profileRow]
    exact rows _
  have low : ((s.profile.deepMv : Nat) : Int) = s.profile.cutoffMv - 200 :=
    Nat.cast_sub deep
  have high : ((s.profile.overvoltMv : Nat) : Int) = s.profile.chargeMv + 100 :=
    Nat.cast_add _ _
  simp only [releaseAccepted, Bool.and_eq_true, decide_eq_true_eq, Bool.not_eq_true', low, high]
  have v := measured s.round.channels.vCell fun x => (s.profile.cutoffMv : Int) - 200 ≤ x ∧ x ≤ s.profile.chargeMv + 100
  have t := measured s.round.channels.tCell fun x => x ≤ 110
  constructor
  · intro accepted
    obtain ⟨x, ex, lo, hi⟩ := v.mp (by tauto)
    obtain ⟨y, ey, warm⟩ := t.mp (by tauto)
    exact ⟨x, y, ex, ey, lo, hi, warm, by tauto⟩
  · rintro ⟨x, y, ex, ey, lo, hi, warm, calm⟩
    have cell := v.mpr ⟨x, ex, lo, hi⟩
    have temperature := t.mpr ⟨y, ey, warm⟩
    tauto

/-- The station as it leaves LATCHED, with its discharge switch closed and a sweep requested (R172). -/
def unlatched (s : State) : State :=
  ((s.withFault { s.fault with dischargeClosed := true }).become .solo).requestSweep

/-- And with its partner judged, its charger and its hinge link stage released (R92, R126, R158). -/
def stagesReleased (s : State) : State :=
  (s.unlatched.judgePartner.withCharger s.unlatched.judgePartner.charger.released).releaseHinge

theorem leaveLatched_eq (s : State) : s.leaveLatched =
    s.stagesReleased.withPort (s.stagesReleased.port.released s.stagesReleased.policy.contract) := rfl

/-- Of the part only station, discharge switch and sweep have changed when the partner is judged. -/
theorem unlatched_eq (s : State) : s.unlatched = { s with
    fault := { s.fault with dischargeClosed := true }, station := { s.station with state := .solo }
    round := { s.round with
      timer := s.unlatched.round.timer, inFlight := true, earlyRequest := s.unlatched.round.earlyRequest }
    hinge := { s.hinge with sinceEntry := s.unlatched.hinge.sinceEntry } } := by
  have flight : s.unlatched.round.inFlight = true := requestSweep_inFlight nofun nofun
  conv_lhs => rw [unlatched, requestSweep_eq, ← unlatched, flight]
  rfl

/-- The judgement leads to PAIRED with a partner and without stuck hold, and the release is not its concern (R158). -/
theorem stagesReleased_station (s : State) : s.stagesReleased.round.inFlight = true ∧
    s.stagesReleased.station.state = if s.partner.isSome && !s.station.stuckHold then .paired else .solo := by
  have flight : s.unlatched.judgeCrowd.round.inFlight = true := by rw [judgeCrowd_round, unlatched_eq]
  have partner : s.unlatched.partner = s.partner := by rw [unlatched_eq]; rfl
  have hold : s.unlatched.station.stuckHold = s.station.stuckHold := by rw [unlatched_eq]
  rw [stagesReleased, releaseHinge_eq, judgePartner_solo (by rw [unlatched_eq]), partner, hold]
  split
  · exact ⟨requestSweep_inFlight nofun nofun, by simp [become]⟩
  · exact ⟨flight, by simp only [withCharger_station, judgeCrowd_station]; rw [unlatched_eq]⟩

theorem stagesReleased_hinge {s : State} (zero : s.apply.link = 0) :
    s.stagesReleased.hinge.barring = .rounds 0 ∧ s.stagesReleased.hinge.history = [] ∧
      s.stagesReleased.hinge.link =
        (if s.hinge.barring = .rounds 0 then s.hinge.link else linkStateOf s.stagesReleased.apply.link) ∧
      s.stagesReleased.apply =
        { s.apply with link := s.stagesReleased.apply.link, linkMa := s.stagesReleased.apply.linkMa } := by
  have solo : s.unlatched.station.state = .solo := by rw [unlatched_eq]
  obtain ⟨apply, link⟩ := judgePartner_solo_stages solo
  obtain ⟨barring, -⟩ := s.unlatched.judgePartner_barring
  have start : s.unlatched.apply = s.apply ∧ s.unlatched.hinge.link = s.hinge.link ∧
      s.unlatched.hinge.barring = s.hinge.barring := by
    rw [unlatched_eq]
    exact ⟨rfl, rfl, rfl⟩
  obtain ⟨apply', link', barring'⟩ := start
  obtain ⟨cleared, forgotten⟩ :=
    (s.unlatched.judgePartner.withCharger s.unlatched.judgePartner.charger.released).releaseHinge_clears
  refine ⟨cleared, forgotten, ?_, ?_⟩
  · rw [stagesReleased, releaseHinge_link (by rw [withCharger_apply, apply, apply', zero]), withCharger_hinge, link, link',
      barring, barring']
  · conv_lhs => rw [stagesReleased, releaseHinge_eq, withCharger_apply, apply, apply']
    rfl

end State
end Sys2Proof.Machine

open Sys2Proof Sys2Proof.Machine

/-- Settles O25: a barring that is cleared leaves the stage open, and the judgement that follows moves the link alone. -/
theorem releaseClearsBarring : Obligations.ReleaseClearsBarring := by
  intro s
  have served (serving : s.station.state = .solo ∨ s.station.state = .paired) : exec .release s = .next s.releaseHinge := by
    rcases serving with e | e <;> simp [exec, execRelease, State.releaseOrder, e]
  refine ⟨?_, fun serving free => ?_, fun serving barred => ?_⟩
  · rintro (e | e | e) <;> simp [exec, execRelease, State.releaseOrder, e]
  · rw [served serving, State.releaseHinge_unbarred free]
  · obtain ⟨barring, history⟩ := s.releaseHinge_clears
    refine ⟨_, served serving, barring, history, ?_, ?_, s.releaseHinge_eq⟩
    · rw [State.releaseHinge_barred barred]
      exact State.setLink_not_barred nofun
    · rw [State.releaseHinge_barred barred, State.judgeLink_link, State.judgeLink_judgedLink]

/-- Settles O26: at most CROWD is logged on the way, and with no link applied before, the stage follows the judgement. -/
theorem releaseFromLatched : Obligations.ReleaseFromLatched := by
  intro s latched bounded accepted
  have accepts : s.releaseAccepted = true ↔ accepted := s.releaseAccepted_iff
  refine ⟨fun refused => ?_, fun ok => ?_⟩
  · simp [exec, execRelease, State.releaseOrder, latched, accepts, refused]
  · have next : exec .release s = .next s.leaveLatched := by
      simp [exec, execRelease, State.releaseOrder, latched, accepts.mpr ok]
    obtain ⟨flight, state⟩ := s.stagesReleased_station
    obtain ⟨barring, history, link, apply⟩ := State.stagesReleased_hinge (State.LinkBounded.unpaired bounded (by simp [latched]))
    obtain ⟨closed, linkCounter, allot, gauge⟩ := s.unlatched.judgePartner_counters
    have fault : s.stagesReleased.fault = s.unlatched.judgePartner.fault := by simp [State.stagesReleased]
    have before : s.unlatched.fault = { s.fault with dischargeClosed := true } := by rw [State.unlatched_eq]
    have port : s.leaveLatched.port = s.port.released s.policy.contract := by
      simp [State.leaveLatched_eq, State.stagesReleased, State.unlatched]
    rw [before, ← fault] at closed linkCounter allot gauge
    refine ⟨_, next, closed, state, flight, ?_, barring, history, link, fun holding none probed => ?_, fun stays => ?_,
      fun k held => ?_, linkCounter, allot, gauge, fun crowd => ?_, apply, ?_⟩
    · simp [State.leaveLatched, Charger.released]
    · rw [port, InputPort.released, if_pos ⟨holding, none, Option.isSome_iff_ne_none.mpr probed⟩]
      rfl
    · rw [port, InputPort.released, if_neg]
      rintro ⟨holding, none, probed⟩
      rcases stays with h | h | h
      exacts [h holding, h none, Option.isSome_iff_ne_none.mp probed h]
    · have kept : s.unlatched.judgePartner.fault.Holds k :=
        State.judgePartner_holds (before ▸ (FaultUnit.holds_congr (fun c => by cases c <;> rfl) k).mp held)
      exact fault ▸ kept
    · have unmoved := State.judgePartner_marked (s := s.unlatched) (by rw [State.unlatched_eq]; exact crowd)
      change s.stagesReleased.fault.fltAsserted = _
      rw [fault, unmoved, before]
    · simp [State.leaveLatched]
end

section
/-!
SUPPORT. The unanswered check of a completed sweep (R71, R85, R86), and what the rest of the sweep leaves of it.
-/

namespace Sys2Proof.Machine

/-! ### The check -/

/-- The check is made in SEND or RECEIVE, with a limit, on a sweep begun since the entry, and a plausible current (R85). -/
theorem HingeStage.checks_of {c : Channel} {h : HingeStage} (active : h.link = .send ∨ h.link = .receive) (pos : 0 < h.limit)
    (since : h.sinceEntry = true) (plausible : c.plausible = true) : h.checks c = true := by
  simp [checks, active, pos, since, plausible]

/-- A second short sweep is an unanswered link (R85, R86). -/
theorem HingeStage.check_second {c : Channel} {h : HingeStage} (checks : h.checks c = true) (short : h.short c.value = true)
    (again : 1 ≤ h.unanswered) : h.check c = ({ h with unanswered := 0 }, true) := by
  rw [check, if_pos checks, if_pos short, if_pos (by omega)]

theorem HingeStage.check_first {c : Channel} {h : HingeStage} (checks : h.checks c = true) (short : h.short c.value = true)
    (fresh : h.unanswered = 0) : h.check c = ({ h with unanswered := 1 }, false) := by
  rw [check, if_pos checks, if_pos short, if_neg (by omega), fresh]

theorem HingeStage.check_answered {c : Channel} {h : HingeStage} (checks : h.checks c = true)
    (answered : h.short c.value = false) : h.check c = ({ h with unanswered := 0 }, false) := by
  rw [check, if_pos checks, if_neg (by simp [answered])]

/-- A link handed leaves the count but at an entry into SEND or RECEIVE (R82). -/
theorem HingeStage.hand_unanswered {x : Int} (limit : Nat) {h : HingeStage}
    (noEntry : h.link = .barred ∨ h.link = linkStateOf x ∨ x = 0) : (h.hand x limit).unanswered = h.unanswered := by
  have link : (h.takeLimit limit).link = h.link := by rw [takeLimit_eq]
  have count : (h.takeLimit limit).unanswered = h.unanswered := by rw [takeLimit_eq]
  simp only [hand, link]
  split
  · exact count
  · rename_i moves
    rw [if_pos (noEntry.elim (fun e => absurd (.inl e) moves) fun e => e.resolve_left fun e => moves (.inr e))]
    exact count

/-- A link compared keeps its direction or is opened (R64). -/
theorem linkUnder_direction (link x : Int) : linkStateOf link = linkStateOf (linkUnder link x) ∨ linkUnder link x = 0 := by
  simp only [linkUnder]
  split
  · exact .inl (by simp [linkStateOf, *])
  · split
    · rename_i h
      exact .inl (by simp [linkStateOf, h, h.1.not_gt, h.2.not_gt])
    · exact .inr rfl

namespace State

/-! ### What the check has written is kept -/

/-- `t` leaves of `s` what the unanswered check writes: the hold, the counter LINK and the count. -/
structure CheckKept (s t : State) : Prop where
  hold : t.apply.unansweredHold = s.apply.unansweredHold
  counter : t.fault.link = s.fault.link
  unanswered : t.hinge.unanswered = s.hinge.unanswered

theorem CheckKept.refl (s : State) : CheckKept s s := ⟨rfl, rfl, rfl⟩

theorem CheckKept.trans {s t u : State} (h : CheckKept s t) (k : CheckKept t u) : CheckKept s u :=
  ⟨k.hold.trans h.hold, k.counter.trans h.counter, k.unanswered.trans h.unanswered⟩

theorem setLink_checkKept {x : Int} {s : State}
    (noEntry : s.hinge.link = .barred ∨ s.hinge.link = linkStateOf x ∨ x = 0) : CheckKept s (s.setLink x) := by
  refine ⟨by rw [setLink_apply], by rw [setLink_fault], ?_⟩
  simp only [setLink]
  split
  exacts [rfl, HingeStage.hand_unanswered _ noEntry]

theorem setDraw_checkKept (g : Nat) (s : State) : CheckKept s (s.setDraw g) :=
  ⟨by rw [setDraw_apply], by rw [setDraw_fault], by rw [setDraw_hinge]⟩

theorem setCharge_checkKept (c : Nat) (s : State) : CheckKept s (s.setCharge c) :=
  ⟨by rw [setCharge_apply], by rw [setCharge_fault], by rw [setCharge_hinge]⟩

theorem requestSweep_checkKept (s : State) : CheckKept s s.requestSweep := by
  rw [requestSweep_eq]
  exact ⟨rfl, rfl, rfl⟩

theorem logKind_checkKept (k : Kind) (s : State) : CheckKept s (s.logKind k) :=
  ⟨by rw [logKind_apply], by rw [logKind_fault], by rw [logKind_hinge]⟩

theorem enterLatched_checkKept (s : State) : CheckKept s s.enterLatched := by
  have opened : CheckKept s (s.withFault { s.fault with dischargeClosed := false }) := ⟨rfl, rfl, rfl⟩
  have unloaded := (opened.trans (setCharge_checkKept 0 _)).trans (setLink_checkKept (x := 0) (.inr (.inr rfl)))
  have latched (u : State) : CheckKept u
      (((u.withCharger u.charger.enterHoldOff).withPort u.port.abortProbe).become .latched) := ⟨rfl, rfl, rfl⟩
  have requested (b : Bool) (u : State) : CheckKept u (u.requestSweepIf b) := by
    cases b
    exacts [.refl u, requestSweep_checkKept u]
  exact ((unloaded.trans (latched _)).trans (requested _ _)).trans (requestSweep_checkKept _)

theorem haltingEffect_checkKept (s : State) : CheckKept s s.haltingEffect := by
  have opened : CheckKept s (s.withFault { s.fault with dischargeClosed := false }) := ⟨rfl, rfl, rfl⟩
  simp only [haltingEffect]
  split
  case h_1 | h_2 => exact enterLatched_checkKept s
  case h_3 => exact .refl s
  case h_4 => exact ⟨rfl, rfl, rfl⟩
  case h_5 =>
    have uncharged := opened.trans (setCharge_checkKept 0 _)
    split
    exacts [uncharged, uncharged.trans ⟨rfl, rfl, rfl⟩]
  case h_6 => exact opened

theorem raise_checkKept (k : Kind) (s : State) : CheckKept s (s.raise k) := by
  simp only [raise]
  split
  exacts [(logKind_checkKept k s).trans (haltingEffect_checkKept _), logKind_checkKept k s]

theorem raiseAll_checkKept (ks : List Kind) (s : State) : CheckKept s (s.raiseAll ks) := by
  induction ks generalizing s with
  | nil => exact .refl s
  | cons k ks ih => exact (raise_checkKept k s).trans (ih _)

/-- A stage in form enters no SEND or RECEIVE under a proposal (R64, R82). -/
theorem replaceProposal_checkKept (r : Setting) (code : Nat) {s : State} (sound : s.HingeSound) :
    CheckKept s (s.replaceProposal r code) := by
  let u := s.withApply { s.apply with proposal := r, code := code }
  let v := u.setDraw (min u.apply.draw r.g.toNat)
  let w := v.setCharge (min v.apply.charge r.c.toNat)
  have lowered : CheckKept s w :=
    ((⟨rfl, rfl, rfl⟩ : CheckKept s u).trans (setDraw_checkKept _ u)).trans (setCharge_checkKept _ v)
  have formed : HingeKept u w := (setDraw_hingeKept _ u).trans (setCharge_hingeKept _ v)
  obtain ⟨-, -, -, follows, -⟩ := formed sound
  refine lowered.trans (setLink_checkKept (s := w) ?_)
  by_cases barred : w.hinge.link = .barred
  · exact .inl barred
  · rw [follows barred]
    exact .inr (linkUnder_direction _ _)

theorem handAll_checkKept {s : State} (sound : s.HingeSound) : CheckKept s s.handAll := by
  obtain ⟨-, -, -, follows, -⟩ := sound
  refine ⟨by rw [handAll_apply], by rw [handAll_fault], HingeStage.hand_unanswered _ ?_⟩
  exact (em (s.hinge.link = .barred)).imp_right fun unbarred => .inl (follows unbarred)

/-- The composition leaves the check of a stage in form (R5 steps 6 to 8). -/
theorem readyToCompose_checkKept {s : State} (sound : s.HingeSound) : CheckKept s s.readyToCompose := by
  have recorded : CheckKept s s.recordedL := ⟨by simp [recordedL], by simp [recordedL], by simp [recordedL]⟩
  have run : CheckKept s.recordedL s.runTaken :=
    (replaceProposal_checkKept _ _ (recordedL_hingeKept s sound)).trans ⟨rfl, rfl, rfl⟩
  have reported : CheckKept s.runTaken s.shortfallReported := by
    simp only [shortfallReported]
    split
    exacts [raise_checkKept _ _, .refl _]
  have counted (b : Bool) (u : State) : CheckKept u (u.countIf b .allotUnordered) := by
    cases b <;> exact ⟨rfl, rfl, rfl⟩
  exact (((recorded.trans run).trans reported).trans (counted _ _)).trans (handAll_checkKept (runReported_hingeKept s sound))

/-- From the check on the sweep leaves what it has written. -/
theorem completeSweep_checkKept (r : Readings) {s : State} (sound : s.HingeSound) :
    CheckKept (s.sweptStages r) (s.completeSweep r) := by
  obtain ⟨-, apply, hinge, -⟩ := completeSweep_blocks r s
  have raised : CheckKept (s.sweptStages r) (s.sweptRaised r) := raiseAll_checkKept _ _
  have composed : CheckKept (s.sweptRaised r) (s.completeSweep r) := by
    obtain ⟨hold, counter, unanswered⟩ := readyToCompose_checkKept (sweptRaised_hingeKept r s sound)
    refine ⟨by rw [apply, hold], ?_, by rw [hinge, unanswered]⟩
    rw [completeSweep_eq, sweepCompose_eq, endSweep_fault, handState_fault]
    exact counter
  exact raised.trans composed

/-- A link that the check has opened stays open (R64, R171). -/
theorem completeSweep_link_zero {r : Readings} {s : State} (zero : (s.sweptStages r).apply.link = 0) :
    (s.completeSweep r).apply.link = 0 := by
  obtain ⟨-, apply, -⟩ := completeSweep_blocks r s
  obtain ⟨-, -, -, -, -, link⟩ := (s.sweptRaised r).readyToCompose_apply
  have raised : (s.sweptRaised r).apply.link = 0 := (raiseAll_follows _ _).link.elim (·.trans zero) id
  rw [apply, link, raised, linkUnder_zero]

/-! ### The sweep up to the check -/

/-- An unanswered link is held and counted, and goes to 0 (R71, R86). -/
theorem sweepHinge_unanswered {s : State}
    (check : s.hinge.check s.round.channels.iHinge = ({ s.hinge with unanswered := 0 }, true)) :
    s.sweepHinge.apply.unansweredHold = true ∧ s.sweepHinge.apply.link = 0 ∧
      s.sweepHinge.fault.link = s.fault.link.bump ∧ s.sweepHinge.hinge.unanswered = 0 := by
  let u := (s.withHinge { s.hinge with unanswered := 0 }).count .linkUnanswered
  have opened : s.sweepHinge = (u.withApply { u.apply with unansweredHold := true }).setLink 0 := by
    simp only [sweepHinge, check, if_true]
    rfl
  obtain ⟨hold, counter, unanswered⟩ : CheckKept (u.withApply { u.apply with unansweredHold := true }) s.sweepHinge :=
    opened ▸ setLink_checkKept (.inr (.inr rfl))
  exact ⟨hold, by rw [opened, setLink_link], counter, unanswered⟩

section
variable (r : Readings) (s : State)

/-- The first two steps count GAUGE_CLIP and LEARN_REJECT at most (R30, R34). -/
theorem swept_linkCounter : (s.swept r).fault.link = s.fault.link := by
  have clipped (b : Bool) (u : State) : (u.countIf b .gaugeClip).fault.link = u.fault.link := by cases b <;> rfl
  have rejected (b : Bool) (u : State) : (u.countIf b .learnReject).fault.link = u.fault.link := by cases b <;> rfl
  simp only [swept, sweepCharger]
  split
  · rw [gaugeFull, rejected, withGauge_fault, withCharger_fault, sweepGauge, clipped]
    rfl
  · rw [withCharger_fault, sweepGauge, clipped]
    rfl

/-- The stage is checked as it stood before the sweep, on the channel as just judged (R5). -/
theorem sweptStages_checked (flight : s.round.inFlight = true) : ∃ u : State, s.sweptStages r = u.sweepHinge ∧
    u.hinge = s.hinge ∧ u.apply = s.apply ∧ u.fault.link = s.fault.link ∧
      u.round.channels.iHinge = s.round.channels.iHinge.judge (-2500) 2500 r.iHinge := by
  have flying : (s.swept r).round.inFlight = true := by rw [swept_round]; exact flight
  have hinge : (s.swept r).sweepPort.hinge = (s.swept r).hinge := by
    simp only [sweepPort, requestSweepIf]
    split
    · rcases requestSweep_cases ((s.swept r).withPort _) with ⟨-, e⟩ | ⟨-, -, -, e⟩ | ⟨-, -, no, -⟩
      · rw [e]; rfl
      · rw [e]; rfl
      · exact absurd (flying.symm.trans no) nofun
    · rfl
  refine ⟨(s.swept r).sweepPort, rfl, by rw [hinge, swept_hinge], by rw [sweepPort_apply, swept_apply],
    by rw [sweepPort_fault, swept_linkCounter], ?_⟩
  rw [(sweepPort_follows _).round flying, swept_round]
  rfl

end

end State
end Sys2Proof.Machine

open Sys2Proof Sys2Proof.Machine

/-- Settles O19: the check finds the stage as it stood, and nothing after it writes what it writes: no proposal leads a stage in
form into SEND or RECEIVE. -/
theorem sweepUnanswered : Obligations.SweepUnanswered := by
  intro r s i flight low high sound direction pos since
  obtain ⟨u, stages, hinge, apply, counter, channel⟩ := State.sweptStages_checked r s flight
  obtain ⟨hold', counter', unanswered'⟩ := State.completeSweep_checkKept r sound
  have reading : u.round.channels.iHinge = ⟨true, some r.iHinge⟩ := by rw [channel, Channel.judge, if_pos ⟨low, high⟩]
  have checks : u.hinge.checks u.round.channels.iHinge = true := by
    rw [hinge]
    exact HingeStage.checks_of (direction.imp And.left And.left) pos since (by rw [reading])
  have short : u.hinge.short u.round.channels.iHinge.value = decide (4 * i < s.hinge.limit) := by
    rw [reading, hinge]
    rcases direction with ⟨link, rfl⟩ | ⟨link, rfl⟩ <;> simp [HingeStage.short, link, Channel.value]
  rw [stages] at hold' counter' unanswered'
  refine ⟨_, State.exec_sweepComplete flight, fun isShort again => ?_, fun isShort fresh => ?_, fun answered => ?_⟩
  · have check := HingeStage.check_second checks (by rw [short, decide_eq_true isShort]) (hinge ▸ again)
    obtain ⟨hold, zero, bumped, none⟩ := State.sweepHinge_unanswered check
    exact ⟨hold'.trans hold, State.completeSweep_link_zero (stages ▸ zero), counter'.trans (bumped.trans (by rw [counter])),
      unanswered'.trans none⟩
  · have check := HingeStage.check_first checks (by rw [short, decide_eq_true isShort]) (hinge ▸ fresh)
    have kept : u.sweepHinge = u.withHinge { u.hinge with unanswered := 1 } := by simp [State.sweepHinge, check]
    rw [kept] at hold' counter' unanswered'
    exact ⟨counter'.trans counter, unanswered', hold'.trans (congrArg _ apply)⟩
  · have check := HingeStage.check_answered checks (by rw [short, decide_eq_false answered.not_gt])
    have kept : u.sweepHinge = u.withHinge { u.hinge with unanswered := 0 } := by simp [State.sweepHinge, check]
    rw [kept] at counter' unanswered'
    exact ⟨unanswered', counter'.trans counter⟩
end

section
/-!
SUPPORT. The input port stage at a sweep, check by check (R100, R101, R103, R109), and the port that a completed sweep leaves.
-/

namespace Sys2Proof.Machine

namespace InputPort

/-! ### The port's own step -/

section
variable {p : InputPort} {c : Channel} {v : Nat} (contract : Option Nat) (latched : Bool)

/-- An attached port whose V_in reads below 3800 mV detaches (R101). -/
theorem sweep_undervoltage (attached : p.attached = true) (held : c.held = some (v : Int)) (low : v < 3800) :
    (p.sweep contract latched c).1 = p.leave .detached := by
  have below : c.value < 3800 := by rw [Channel.value_of_held held]; exact_mod_cast low
  cases port : p.port <;> simp [InputPort.attached, port] at attached <;> simp [sweep, port, below]

/-- A BLOCKED port unblocks on a plausible V_in below 13000 mV (R103). -/
theorem sweep_blocked (blocked : p.port = .blocked) (held : c.held = some (v : Int)) :
    (p.sweep contract latched c).1.port = if c.plausible ∧ v < 13000 then .detached else .blocked := by
  have below : c.value < 13000 ↔ v < 13000 := by rw [Channel.value_of_held held]; exact_mod_cast Iff.rfl
  simp only [sweep, blocked, Bool.and_eq_true, decide_eq_true_eq, below]
  split
  exacts [rfl, blocked]

theorem sweep_detached (detached : p.port = .detached) :
    p.sweep contract latched c = p.attachCheck contract latched c := by
  simp only [sweep, detached]

theorem attachCheck_suspect (suspect : c.plausible = false) : p.attachCheck contract latched c = (p, false) := by
  simp [attachCheck, suspect]

theorem attachCheck_low (plausible : c.plausible = true) (held : c.held = some (v : Int)) (low : v < 4300) :
    p.attachCheck contract latched c = ({ p with attachCount := 0 }, false) := by
  have below : c.value < 4300 := by rw [Channel.value_of_held held]; exact_mod_cast low
  simp [attachCheck, plausible, below]

/-- A V_in at or above 4300 mV counts, and the third attaches (R100). -/
theorem attachCheck_high (plausible : c.plausible = true) (held : c.held = some (v : Int)) (high : 4300 ≤ v) :
    p.attachCheck contract latched c =
      if p.attachCount + 1 < 3 then ({ p with attachCount := p.attachCount + 1 }, false)
      else (p.attach contract latched v, true) := by
  have value : c.value = v := Channel.value_of_held held
  have above : ¬ (v : Int) < 4300 := by omega
  simp [attachCheck, plausible, value, above]

/-- Every attachment holds its voltage behind a closed switch (R100). -/
theorem attach_held (p : InputPort) (v : Nat) :
    let q := p.attach contract latched v
    q.attachMv = some v ∧ q.switchClosed = true ∧ q.attachCount = 0 := by
  simp only [attach]
  repeat' split
  all_goals exact ⟨rfl, rfl, rfl⟩

/-- A contract is held at once, LATCHED holds 500 mA, and elsewhere a probe begins (R100, R104, R110). -/
theorem attach_outcome (p : InputPort) (v : Nat) :
    let q := p.attach contract latched v
    if contract ≠ none then q.port = .holding ∧ q.probed = none
    else if latched = true then q.port = .holding ∧ q.probed = some 500
    else q.port = .probing ∧ q.step = some 500 ∧ q.stepLeft = 20 ∧ q.lastHeld = none := by
  cases contract with
  | some k => simp [attach]
  | none => cases latched <;> simp [attach, beginProbe]

/-- A port HOLDING on a probed limit lowers it on a plausible V_in below 92 % of the attach voltage (R109). -/
theorem sweep_probed {n a : Nat} (holding : p.port = .holding) (probed : p.probed = some n) (attach : p.attachMv = some a)
    (held : c.held = some (v : Int)) (high : 3800 ≤ v) : (p.sweep contract latched c).1 = { p with
      probed := if contract = none ∧ c.plausible = true ∧ v < a * 92 / 100 then some (max 500 (n - 100)) else some n } := by
  have value : c.value = v := Channel.value_of_held held
  have above : ¬ (v : Int) < 3800 := by omega
  have sag : p.sagMv = a * 92 / 100 := by rw [sagMv, attach, Option.getD_some]
  simp only [sweep, holding, value, above, if_false, sagCheck, probed, true_and, sag, Nat.cast_lt]
  split
  · rfl
  · rw [← probed, ← holding]

end

/-! ### The probe steps (R104) -/

/-- A step that ends with no trip has held: the next is 100 mA higher, and 3000 mA is the last. -/
theorem stepHeld_of_step {p : InputPort} {n : Nat} (step : p.step = some n) : p.stepHeld =
    if n < 3000 then { p with lastHeld := some n, step := some (n + 100), stepLeft := 20 } else p.endProbe 3000 := by
  simp only [stepHeld, step]

end InputPort

namespace State

theorem exec_probeStepEnd {s : State} (probing : s.probing = true) : exec .probeStepEnd s =
    .next ((s.advance s.port.stepLeft).withPort (s.advance s.port.stepLeft).port.stepHeld) := by
  simp only [exec, execProbeStepEnd, probing, if_true]

/-- A trip below 92 % of the attach voltage fails the step, and with it the probe (R104). -/
theorem exec_probeComparatorTrip {s : State} {vIn : Nat} (probing : s.probing = true) (sag : vIn < s.port.sagMv) :
    exec (.probeComparatorTrip vIn) s = .next (s.withPort s.port.failProbe) := by
  simp only [exec, execProbeComparatorTrip, probing, sag, decide_true, Bool.and_true, if_true]

/-! ### What the rest of the sweep leaves of the port -/

/-- A kind raised leaves port and station state, or leads into LATCHED (R171). -/
theorem raise_port (k : Kind) (s : State) :
    ((s.raise k).port = s.port ∧ (s.raise k).station.state = s.station.state) ∨
      (s.station.state ≠ .latched ∧ (s.raise k).Latched) := by
  by_cases halting : k.severity = .halting
  · rw [raise_halting k s halting, haltingEffect, logKind_station]
    cases state : s.station.state
    case solo | paired => exact .inr ⟨nofun, enterLatched_latched _⟩
    case mute =>
      refine .inl ?_
      dsimp only
      split <;> simp [state]
    all_goals exact .inl (by simp [state])
  · exact .inl (by simp [raise, halting])

/-- Where the station state stays, the kinds of one event leave the port (R171). -/
theorem raiseAll_port {ks : List Kind} {s : State} (stays : (s.raiseAll ks).station.state = s.station.state) :
    (s.raiseAll ks).port = s.port := by
  induction ks generalizing s with
  | nil => rfl
  | cons k ks ih =>
    rw [raiseAll_cons] at stays ⊢
    rcases raise_port k s with ⟨port, state⟩ | ⟨awake, latched⟩
    · rw [ih (stays.trans state.symm), port]
    · exact absurd (stays.symm.trans (latched.raiseAll ks).state) awake

/-- The port's step is made on the channel as just judged; after it only the draw limit is handed over (R5). -/
theorem completeSweep_port {r : Readings} {s : State} (flight : s.round.inFlight = true)
    (stays : (s.completeSweep r).station.state = s.station.state) : (s.completeSweep r).port =
      { (s.port.sweep s.policy.contract (decide (s.station.state = .latched)) (s.completeSweep r).round.channels.vIn).1 with
        drawLimit := (s.completeSweep r).port.drawLimit } := by
  obtain ⟨station, -, -, port, -⟩ := completeSweep_blocks r s
  obtain ⟨-, -, -, composed⟩ := (s.sweptRaised r).readyToCompose_stages
  have raised : (s.sweptRaised r).port = (s.sweptStages r).port := by
    refine raiseAll_port ?_
    rw [sweptStages_station, ← stays, station, readyToCompose_station]
    rfl
  have stages : (s.sweptStages r).port =
      (s.port.sweep s.policy.contract (decide (s.station.state = .latched)) (s.completeSweep r).round.channels.vIn).1 := by
    rw [completeSweep_round_eq flight, sweptStages, sweepHinge_port, sweepPort, requestSweepIf_port, withPort_port, swept_round,
      swept_station]
    simp [swept]
  rw [raised, stages] at composed
  rw [port]
  exact composed

end State
end Sys2Proof.Machine

open Sys2Proof Sys2Proof.Machine

/-- Settles O17: where the station state stays, the port is that of its own step but for the draw limit, and each clause is one
check of that step. -/
theorem sweepPort : Obligations.SweepPort := by
  intro r s flight
  refine ⟨_, State.exec_sweepComplete flight, fun stays v held => ?_⟩
  intro plausible
  have port := State.completeSweep_port flight stays
  generalize (s.completeSweep r).port.drawLimit = limit at port ⊢
  rw [port]
  refine ⟨fun attached low => ?_, fun blocked => ?_, fun detached good high two => ?_, fun detached good high few => ?_,
    fun detached good low => ?_, fun detached suspect => ?_, fun n a holding probed attach high => ?_⟩
  · rw [InputPort.sweep_undervoltage _ _ attached held low]
    exact ⟨rfl, rfl, rfl, rfl, rfl⟩
  · exact InputPort.sweep_blocked _ _ blocked held
  · rw [InputPort.sweep_detached _ _ detached, InputPort.attachCheck_high _ _ good held high, if_neg (by omega)]
    obtain ⟨volts, closed, count⟩ :=
      InputPort.attach_held s.policy.contract (decide (s.station.state = .latched)) s.port v
    have outcome := InputPort.attach_outcome s.policy.contract (decide (s.station.state = .latched)) s.port v
    simp only [decide_eq_true_eq] at outcome
    exact ⟨volts, closed, count, outcome⟩
  · rw [InputPort.sweep_detached _ _ detached, InputPort.attachCheck_high _ _ good held high, if_pos (by omega)]
  · rw [InputPort.sweep_detached _ _ detached, InputPort.attachCheck_low _ _ good held low]
  · rw [InputPort.sweep_detached _ _ detached, InputPort.attachCheck_suspect _ _ suspect]
  · rw [InputPort.sweep_probed _ _ holding probed attach held high]

/-- Settles O39: the rest of the step passes before it is judged, and the trip ends the probe at the last step held. -/
theorem probeSteps : Obligations.ProbeSteps := by
  intro n vIn v s port on step attach
  have probing : s.probing = true := (State.probing_iff s).mpr ⟨port, on⟩
  refine ⟨⟨_, State.exec_probeStepEnd probing, rfl, ?_, rfl, rfl, rfl, rfl, rfl, rfl, rfl, rfl, rfl, rfl, rfl, rfl, rfl, rfl⟩,
    fun sag => ?_⟩
  · rw [State.withPort_port, InputPort.stepHeld_of_step (p := (s.advance s.port.stepLeft).port) step]
    split <;> rfl
  · have below : vIn < s.port.sagMv := by rwa [InputPort.sagMv, attach, Option.getD_some]
    exact State.exec_probeComparatorTrip probing below
end

section
/-!
SUPPORT. What the charger's own operations keep of its form (R115, R117, R119 to R121, R125), and what they write.
-/

namespace Sys2Proof.Machine.Charger

/-- The form of a charger but for its band: a held timeout keeps it in HOLD_OFF, and it counts in TAPER alone (R121, R125). -/
def Counted (c : Charger) : Prop :=
  (c.timeoutHeld = true → c.phase = .holdOff) ∧ (c.phase ≠ .taper → c.termination = 0) ∧ c.termination ≤ 1 ∧ c.stay ≤ 600000

/-- The form of a charger: and under a band that permits no charge it is in HOLD_OFF or FULL (R117). -/
def InForm (c : Charger) : Prop :=
  c.Counted ∧ (chargeFactor c.band = 0 → c.phase = .holdOff ∨ c.phase = .full)

/-- Where the station does not let it charge, a charger is in HOLD_OFF (R117, R126). -/
def RestsIn (st : StationState) (c : Charger) : Prop :=
  stationCharges st = false → c.phase = .holdOff

section
variable {st : StationState} {c : Charger}

theorem permitted_station (may : c.permitted st = true) : stationCharges st = true := by
  simp only [permitted, Bool.and_eq_true] at may
  exact may.1.2

theorem permitted_timeout (may : c.permitted st = true) : c.timeoutHeld = false := by
  simp only [permitted, Bool.and_eq_true, Bool.not_eq_true'] at may
  exact may.2

theorem permitted_factor (may : c.permitted st = true) : chargeFactor c.band ≠ 0 := by
  simp only [permitted, Bool.and_eq_true, decide_eq_true_eq] at may
  omega

/-- A charger that may charge is in form in any phase, if it counts in TAPER alone. -/
theorem inForm_of_permitted (may : c.permitted st = true) (idle : c.phase ≠ .taper → c.termination = 0)
    (few : c.termination ≤ 1) (stay : c.stay ≤ 600000) : c.InForm :=
  ⟨⟨fun held => absurd held (by simp [permitted_timeout may]), idle, few, stay⟩, fun none => absurd none (permitted_factor may)⟩

/-- Entry into HOLD_OFF leaves any charger in form (R119). -/
theorem enterHoldOff_inForm (c : Charger) : c.enterHoldOff.InForm :=
  ⟨⟨fun _ => rfl, fun _ => rfl, Nat.zero_le _, Nat.zero_le _⟩, fun _ => .inl rfl⟩

theorem leaveHoldOff_inForm (v : Int) (may : c.permitted st = true) (stay : c.stay ≤ 600000) : (c.leaveHoldOff v).InForm :=
  inForm_of_permitted (st := st) may (fun _ => rfl) (Nat.zero_le _) stay

/-! ### The hand-over (R120) -/

theorem hand_inForm (st : StationState) (v : Int) (p ma : Nat) (form : c.InForm) : (c.hand st v p ma).InForm := by
  by_cases rise : (c.setpoint = 0 ∧ 0 < p) ∧ c.phase = .holdOff ∧ c.permitted st = true
  · obtain ⟨⟨-, -, -, stay⟩, -⟩ := form
    rw [hand_rise _ _ _ _ rise.1 rise.2]
    exact leaveHoldOff_inForm (st := st) v rise.2.2 stay
  · by_cases fall : (0 < c.setpoint ∧ p = 0) ∧ (c.phase = .precharge ∨ c.phase = .bulk ∨ c.phase = .taper)
    · rw [hand_fall _ _ _ _ fall.1 fall.2]
      exact enterHoldOff_inForm _
    · rw [hand_stored _ _ _ _ rise fall]
      exact form

theorem hand_restsIn (v : Int) (p ma : Nat) (rests : c.RestsIn st) : (c.hand st v p ma).RestsIn st := by
  intro closed
  have held := rests closed
  rw [hand_stored]
  · exact held
  · exact fun rise => absurd (permitted_station rise.2.2) (by simp [closed])
  · rintro ⟨-, charges⟩
    simp [held] at charges

/-- A charge handed twice is handed once, with the later limit. -/
theorem hand_hand (st : StationState) (v : Int) (p ma ma' : Nat) (c : Charger) :
    (c.hand st v p ma).hand st v p ma' = c.hand st v p ma' := by
  have again (d : Charger) (same : d.setpoint = p) : d.hand st v p ma' = { d with limitMa := ma' } := by
    rw [hand_stored _ _ _ _ (by omega) (by omega), ← same]
  have once := again (c.hand st v p ma) (c.hand_setpoint st v p ma).1
  by_cases rise : (c.setpoint = 0 ∧ 0 < p) ∧ c.phase = .holdOff ∧ c.permitted st = true
  · rw [once, hand_rise _ _ _ _ rise.1 rise.2, hand_rise _ _ _ _ rise.1 rise.2]
    rfl
  · by_cases fall : (0 < c.setpoint ∧ p = 0) ∧ (c.phase = .precharge ∨ c.phase = .bulk ∨ c.phase = .taper)
    · rw [once, hand_fall _ _ _ _ fall.1 fall.2, hand_fall _ _ _ _ fall.1 fall.2]
      rfl
    · rw [once, hand_stored _ _ _ _ rise fall, hand_stored _ _ _ _ rise fall]

/-! ### The sweep (R118) -/

/-- Whether charging current flows in a sweep's interval (R123). -/
def counts (ok : Bool) (i : Int) (c : Charger) : Bool :=
  if ok then decide (0 < i) else decide (0 < c.limitMa)

/-- The charger with the band of the sweep's temperature and with its interval counted (R115, R123). -/
def timed (ok : Bool) (i t2 : Int) (t : Nat) (c : Charger) : Charger := { c with
  band := some (bandOf t2)
  prechargeTimer := c.prechargeTimer + if c.phase = .precharge ∧ c.counts ok i = true then t else 0
  bulkTimer := c.bulkTimer + if (c.phase = .bulk ∨ c.phase = .taper) ∧ c.counts ok i = true then t else 0 }

/-- And with its ceiling judged (R116). -/
def capped (ceiling q : Nat) (c : Charger) : Charger :=
  let latch := latchJudged ceiling q c.ceilingLatch
  { c with ceilingLatch := latch, ceilingHolds := ceilingCondition ceiling q latch }

/-- The moves of R119: what each row writes, and the phase it starts from. -/
inductive Moves (p : Profile) (ok : Bool) (i v : Int) (c : Charger) : Charger → Prop
  | stays (phase : c.phase ≠ .taper) : Moves p ok i v c c
  | counts (phase : c.phase = .taper) (few : c.terminationJudged p ok i ≤ 1) :
      Moves p ok i v c { c with termination := c.terminationJudged p ok i }
  | leaves (phase : c.phase = .holdOff) : Moves p ok i v c (c.leaveHoldOff v)
  | ends (phase : c.phase ≠ .holdOff) : Moves p ok i v c c.enterHoldOff
  | charges (phase : c.phase = .precharge) : Moves p ok i v c { c with phase := .bulk, termination := 0 }
  | tapers (phase : c.phase = .bulk) : Moves p ok i v c { c with phase := .taper }
  | fills (phase : c.phase = .taper) : Moves p ok i v c { c with phase := .full, termination := 0 }
  | recharges (phase : c.phase = .full) :
      Moves p ok i v c { c with phase := .bulk, termination := 0, prechargeTimer := 0, bulkTimer := 0 }

theorem countInterval_timed (ok : Bool) (i t2 : Int) (t : Nat) (c : Charger) :
    { c with band := some (bandOf t2) }.countInterval ok i t = c.timed ok i t2 t := by
  have flows : (if ok then decide (0 < i) else decide (0 < c.limitMa)) = c.counts ok i := rfl
  simp only [countInterval, timed, flows]
  cases c.counts ok i
  · simp
  · cases phase : c.phase <;> simp

variable {p : Profile} {ceiling q : Nat} {ok : Bool} {i v t2 : Int} {t : Nat}

/-- A safety timer that stands at its limit ends the charging, and only then is no transition made (R125). -/
theorem sweep_expired (out : (c.timed ok i t2 t).timerExpired p = true) (free : c.timeoutHeld = false) :
    (c.sweep p st ceiling q ok i v t2 t).1 = { (c.timed ok i t2 t).enterHoldOff with timeoutHeld := true } := by
  have held : (c.timed ok i t2 t).timeoutHeld = false := free
  simp only [sweep, countInterval_timed]
  rw [if_pos]
  simp only [out, held, Bool.not_false, Bool.and_true]

theorem sweep_transition (runs : ¬((c.timed ok i t2 t).timerExpired p = true ∧ c.timeoutHeld = false)) :
    (c.sweep p st ceiling q ok i v t2 t).1 = ((c.timed ok i t2 t).capped ceiling q).transition p st ok i v := by
  simp only [sweep, countInterval_timed]
  rw [if_neg]
  · rfl
  · simpa [timed] using runs

/-- Where it may not charge, a charger makes for HOLD_OFF or stays in HOLD_OFF or FULL (R119). -/
theorem transition_refused (refused : c.permitted st = false) : c.transition p st ok i v =
    if c.phase = .holdOff ∨ c.phase = .full then c else c.enterHoldOff := by
  cases phase : c.phase <;> simp [transition, phase, refused]

theorem transition_moves : Moves p ok i v c (c.transition p st ok i v) := by
  cases phase : c.phase <;> simp only [transition, phase]
  case holdOff =>
    split
    exacts [.leaves phase, .stays (by simp [phase])]
  case full =>
    split
    exacts [.recharges phase, .stays (by simp [phase])]
  case precharge =>
    split
    · exact .ends (by simp [phase])
    · split
      exacts [.charges phase, .stays (by simp [phase])]
  case bulk =>
    split
    · exact .ends (by simp [phase])
    · split
      exacts [.tapers phase, .stays (by simp [phase])]
  case taper =>
    split
    · exact .ends (by simp [phase])
    · split
      · exact .fills phase
      · exact phase ▸ .counts phase (by omega)

/-- Where it may charge, a move leaves the charger in form in any phase, its count below 2 (R121). -/
theorem transition_inForm (form : c.Counted) : (c.transition p st ok i v).InForm := by
  obtain ⟨timeout, idle, few, stay⟩ := id form
  cases may : c.permitted st with
  | false =>
    rw [transition_refused may]
    split
    · rename_i rests
      exact ⟨form, fun _ => rests⟩
    · exact enterHoldOff_inForm c
  | true =>
    have enters (d : Charger) (permitted : d.permitted st = true) (zero : d.termination = 0) (kept : d.stay = c.stay) :
        d.InForm := inForm_of_permitted permitted (fun _ => zero) (by omega) (by omega)
    have moves : Moves p ok i v c (c.transition p st ok i v) := transition_moves
    generalize c.transition p st ok i v = d at moves ⊢
    cases moves with
    | stays => exact inForm_of_permitted may idle few stay
    | counts phase once => exact inForm_of_permitted (st := st) may (fun other => absurd phase other) once stay
    | ends => exact enterHoldOff_inForm c
    | tapers phase => exact enters _ may (idle (by simp [phase])) rfl
    | leaves | charges | fills | recharges => exact enters _ may rfl rfl

theorem transition_restsIn (rests : c.RestsIn st) : (c.transition p st ok i v).RestsIn st := by
  intro closed
  have refused : c.permitted st = false := by
    by_contra may
    simp [permitted_station (by simpa using may)] at closed
  rw [transition_refused refused, if_pos (.inl (rests closed))]
  exact rests closed

theorem transition_setpoint : (c.transition p st ok i v).setpoint = c.setpoint ∧
    (c.transition p st ok i v).limitMa = c.limitMa := by
  simp only [transition, leaveHoldOff, enterHoldOff]
  repeat' split
  all_goals exact ⟨rfl, rfl⟩

/-- A sweep keeps the form, whatever the band was before. -/
theorem sweep_inForm (form : c.Counted) : (c.sweep p st ceiling q ok i v t2 t).1.InForm := by
  by_cases expired : (c.timed ok i t2 t).timerExpired p = true ∧ c.timeoutHeld = false
  · rw [sweep_expired expired.1 expired.2]
    obtain ⟨⟨-, idle, few, stay⟩, band⟩ := (c.timed ok i t2 t).enterHoldOff_inForm
    exact ⟨⟨fun _ => rfl, idle, few, stay⟩, band⟩
  · rw [sweep_transition expired]
    exact transition_inForm form

theorem sweep_restsIn (rests : c.RestsIn st) : (c.sweep p st ceiling q ok i v t2 t).1.RestsIn st := by
  by_cases expired : (c.timed ok i t2 t).timerExpired p = true ∧ c.timeoutHeld = false
  · rw [sweep_expired expired.1 expired.2]
    exact fun _ => rfl
  · rw [sweep_transition expired]
    exact transition_restsIn rests

/-- And the charge handed with its limit. -/
theorem sweep_setpoint : (c.sweep p st ceiling q ok i v t2 t).1.setpoint = c.setpoint ∧
    (c.sweep p st ceiling q ok i v t2 t).1.limitMa = c.limitMa := by
  by_cases expired : (c.timed ok i t2 t).timerExpired p = true ∧ c.timeoutHeld = false
  · rw [sweep_expired expired.1 expired.2]
    exact ⟨rfl, rfl⟩
  · rw [sweep_transition expired]
    exact transition_setpoint

end

end Sys2Proof.Machine.Charger
end

section
/-!
SUPPORT. What the operations of the machine keep of the charger's form and of the charge it holds (R114, R117, R120, R126), and
every step.
-/

namespace Sys2Proof.Machine

/-- What the charger's form reads of a state beside the station state. -/
structure Charging where
  charger : Charger
  charge : Nat
  limitMa : Nat

namespace State

/-- The charging of a state. -/
def charging (s : State) : Charging where
  charger := s.charger
  charge := s.apply.charge
  limitMa := s.apply.chargeMa

/-- The charger holds the applied charge and its limit (R120). -/
def Handed (s : State) : Prop :=
  s.charger.setpoint = s.apply.charge ∧ s.charger.limitMa = s.apply.chargeMa

theorem chargerSound_iff (s : State) :
    s.ChargerSound ↔ s.charger.InForm ∧ s.charger.RestsIn s.station.state ∧ s.Handed := by
  have stations : stationCharges s.station.state = false ↔
      s.station.state = .start ∨ s.station.state = .latched ∨ s.station.state = .shelf := by
    cases s.station.state <;> simp [stationCharges]
  simp only [ChargerSound, Charger.InForm, Charger.Counted, Charger.RestsIn, Handed, stations]
  tauto

/-- `t` keeps the charger of `s` in form. -/
def ChargerKept (s t : State) : Prop :=
  s.ChargerSound → t.ChargerSound

theorem ChargerKept.refl (s : State) : ChargerKept s s := id

theorem ChargerKept.trans {s t u : State} (h : ChargerKept s t) (k : ChargerKept t u) : ChargerKept s u := k ∘ h

/-- Where the charging is left alone the station state may turn to one that lets the charger charge. -/
theorem ChargerKept.of_charging {s t : State} (charging : t.charging = s.charging)
    (state : t.station.state = s.station.state ∨ stationCharges t.station.state = true) : ChargerKept s t := by
  obtain ⟨charger, charge, limit⟩ := (Charging.mk.injEq ..).mp charging
  simp only [ChargerKept, chargerSound_iff, Handed, charger, charge, limit]
  rintro ⟨form, rests, handed⟩
  refine ⟨form, fun closed => ?_, handed⟩
  rcases state with same | opens
  · exact rests (same ▸ closed)
  · rw [opens] at closed
    cases closed

/-- What is kept from a state of the same charging on. -/
theorem ChargerKept.after {s t u : State} (k : ChargerKept t u) (charging : t.charging = s.charging)
    (state : t.station.state = s.station.state) : ChargerKept s u :=
  (ChargerKept.of_charging charging (.inl state)).trans k

/-- What leaves the bearing, the charger and its limit keeps the form. -/
theorem ChargerKept.of_bearing {s t : State} (bearing : t.bearing = s.bearing) (charger : t.charger = s.charger)
    (limit : t.apply.chargeMa = s.apply.chargeMa) : ChargerKept s t := by
  have charge : t.apply.charge = s.apply.charge := congrArg Bearing.charge bearing
  exact .of_charging (by rw [charging, charger, charge, limit]; rfl) (.inl (congrArg Bearing.state bearing))

/-- A charger led into HOLD_OFF is in form in every station state. -/
theorem chargerSound_of_holdOff {s t : State} (handed : s.Handed) (charger : t.charger = s.charger.enterHoldOff)
    (apply : t.apply = s.apply) : t.ChargerSound := by
  rw [chargerSound_iff, Handed, charger, apply]
  exact ⟨s.charger.enterHoldOff_inForm, fun _ => rfl, handed⟩

theorem ChargerKept.of_holdOff {s t : State} (charger : t.charger = s.charger.enterHoldOff) (apply : t.apply = s.apply) :
    ChargerKept s t :=
  fun sound => chargerSound_of_holdOff ((chargerSound_iff s).mp sound).2.2 charger apply

/-! ### The setpoints -/

theorem setDraw_charging (g : Nat) (s : State) : (s.setDraw g).charging = s.charging := by rw [setDraw_eq]; rfl

theorem setLink_charging (x : Int) (s : State) : (s.setLink x).charging = s.charging := by rw [setLink_eq]; rfl

theorem setDraw_chargerKept (g : Nat) (s : State) : ChargerKept s (s.setDraw g) :=
  .of_charging (setDraw_charging g s) (.inl (by simp))

theorem setLink_chargerKept (x : Int) (s : State) : ChargerKept s (s.setLink x) :=
  .of_charging (setLink_charging x s) (.inl (by simp))

theorem judgeLink_chargerKept (s : State) : ChargerKept s s.judgeLink := setLink_chargerKept _ s

/-- A changed charge is handed with its limit (R60). -/
theorem setCharge_handed (c : Nat) {s : State} (handed : s.Handed) : (s.setCharge c).Handed := by
  by_cases same : c = s.apply.charge
  · rwa [setCharge_same same]
  · rw [setCharge_changed same]
    obtain ⟨setpoint, limit, -⟩ :=
      s.charger.hand_setpoint s.station.state s.round.channels.vCell.value c (s.chargeLimitOf c)
    exact ⟨setpoint, limit⟩

theorem setCharge_chargerKept (c : Nat) (s : State) : ChargerKept s (s.setCharge c) := by
  by_cases same : c = s.apply.charge
  · rw [setCharge_same same]
    exact .refl s
  · rw [ChargerKept, chargerSound_iff, chargerSound_iff]
    rintro ⟨form, rests, handed⟩
    have handed' := setCharge_handed c handed
    rw [setCharge_changed same] at handed' ⊢
    exact ⟨Charger.hand_inForm _ _ _ _ form, Charger.hand_restsIn _ _ _ rests, handed'⟩

theorem replaceProposal_chargerKept (r : Setting) (code : Nat) (s : State) : ChargerKept s (s.replaceProposal r code) := by
  have set : ChargerKept s (s.withApply { s.apply with proposal := r, code := code }) := .of_charging rfl (.inl rfl)
  exact ((set.trans (setDraw_chargerKept _ _)).trans (setCharge_chargerKept _ _)).trans (setLink_chargerKept _ _)

theorem handAll_chargerKept (s : State) : ChargerKept s s.handAll := by
  rw [ChargerKept, chargerSound_iff, chargerSound_iff, handAll_station]
  rintro ⟨form, rests, -⟩
  obtain ⟨setpoint, limit, -⟩ := s.charger.hand_setpoint s.station.state s.round.channels.vCell.value s.apply.charge
    (s.handDraw.chargeLimitOf s.apply.charge)
  exact ⟨Charger.hand_inForm _ _ _ _ form, Charger.hand_restsIn _ _ _ rests, setpoint, limit⟩

/-! ### Time, sweeps and the log -/

/-- The hold-off stay holds at 600,000 ms (R113). -/
theorem advance_chargerKept (ms : Nat) (s : State) : ChargerKept s (s.advance ms) := by
  rw [ChargerKept, chargerSound_iff, chargerSound_iff]
  rintro ⟨⟨⟨timeout, idle, few, stay⟩, band⟩, rests, handed⟩
  refine ⟨⟨⟨timeout, idle, few, ?_⟩, band⟩, rests, handed⟩
  simp only [advance]
  split
  exacts [stay, Nat.min_le_left _ _]

theorem requestSweep_chargerKept (s : State) : ChargerKept s s.requestSweep :=
  .of_charging (by simp [charging]) (.inl (by simp))

theorem requestSweepIf_chargerKept (b : Bool) (s : State) : ChargerKept s (s.requestSweepIf b) :=
  .of_charging (by simp [charging]) (.inl (by simp))

theorem logKind_chargerKept (k : Kind) (s : State) : ChargerKept s (s.logKind k) :=
  .of_charging (by simp [charging]) (.inl (by simp))

theorem endReception_chargerKept (s : State) : ChargerKept s s.endReception := .of_charging rfl (.inl rfl)

theorem settleShelf_chargerKept (vIn : Nat) (s : State) : ChargerKept s (s.settleShelf vIn) :=
  .of_bearing (settleShelf_bearing vIn s) (settleShelf_charger vIn s) (by rw [settleShelf_apply_rewrite])

/-! ### Changes of station state -/

theorem become_chargerKept {st : StationState} (opens : stationCharges st = true) (s : State) : ChargerKept s (s.become st) :=
  .of_charging rfl (.inr opens)

theorem enterLatched_chargerKept (s : State) : ChargerKept s s.enterLatched := by
  have opened : ChargerKept s (s.withFault { s.fault with dischargeClosed := false }) := .of_charging rfl (.inl rfl)
  have unloaded := (opened.trans (setCharge_chargerKept 0 _)).trans (setLink_chargerKept 0 _)
  have latched (u : State) : ChargerKept u
      (((u.withCharger u.charger.enterHoldOff).withPort u.port.abortProbe).become .latched) := .of_holdOff rfl rfl
  exact ((unloaded.trans (latched _)).trans (requestSweepIf_chargerKept _ _)).trans (requestSweep_chargerKept _)

theorem haltingEffect_chargerKept (s : State) : ChargerKept s s.haltingEffect := by
  simp only [haltingEffect]
  split
  case h_1 | h_2 => exact enterLatched_chargerKept s
  case h_3 => exact .refl s
  case h_4 | h_6 => exact .of_charging rfl (.inl rfl)
  case h_5 =>
    have opened : ChargerKept s (s.withFault { s.fault with dischargeClosed := false }) := .of_charging rfl (.inl rfl)
    have uncharged := opened.trans (setCharge_chargerKept 0 _)
    split
    exacts [uncharged, uncharged.trans (.of_holdOff rfl rfl)]

theorem raise_chargerKept (k : Kind) (s : State) : ChargerKept s (s.raise k) := by
  simp only [raise]
  split
  exacts [(logKind_chargerKept k s).trans (haltingEffect_chargerKept _), logKind_chargerKept k s]

theorem raiseAll_chargerKept (ks : List Kind) (s : State) : ChargerKept s (s.raiseAll ks) := by
  induction ks generalizing s with
  | nil => exact .refl s
  | cons k ks ih => exact (raise_chargerKept k s).trans (ih _)

theorem enterMute_chargerKept (s : State) : ChargerKept s s.enterMute := by
  have silenced (u : State) : ChargerKept u
      (((u.withLine { u.line.emptied with offering := false }).withRound { u.round with held := none }).withApply
        { u.apply with rewritePending := false }) := .of_charging rfl (.inl rfl)
  exact (((become_chargerKept rfl s).trans (setLink_chargerKept 0 _)).trans (silenced _)).trans
    (requestSweepIf_chargerKept _ _)

theorem leavePaired_chargerKept (s : State) : ChargerKept s s.leavePaired :=
  ((become_chargerKept rfl s).trans (setLink_chargerKept 0 _)).trans (requestSweep_chargerKept _)

theorem judgePartner_chargerKept (s : State) : ChargerKept s s.judgePartner := by
  have crowd : ChargerKept s s.judgeCrowd := .of_bearing (judgeCrowd_bearing s) (judgeCrowd_charger s) (by simp)
  rcases s.judgePartner_cases with e | e | e <;> rw [e]
  · exact crowd
  · exact (crowd.trans (become_chargerKept rfl _)).trans (requestSweep_chargerKept _)
  · exact crowd.trans (leavePaired_chargerKept _)

/-! ### The own round and the release of the hinge link stage -/

theorem hingeRound_chargerKept (s : State) : ChargerKept s s.hingeRound := by
  have counted : ChargerKept s (s.withHinge s.hinge.ownRound.1) := .of_charging rfl (.inl rfl)
  simp only [hingeRound]
  split
  exacts [counted.trans (judgeLink_chargerKept _), counted]

theorem releaseHinge_chargerKept (s : State) : ChargerKept s s.releaseHinge := by
  have cleared : ChargerKept s (s.withHinge s.hinge.release.1) := .of_charging rfl (.inl rfl)
  simp only [releaseHinge]
  split
  exacts [cleared.trans (judgeLink_chargerKept _), cleared]

theorem hingeTrip_chargerKept (s : State) : ChargerKept s s.hingeTrip := by
  have barred : ChargerKept s (s.withHinge (s.hinge.trip s.round.stamp).1) := .of_charging rfl (.inl rfl)
  exact (barred.trans (raiseAll_chargerKept _ _)).trans (setLink_chargerKept 0 _)

theorem ownRound_chargerKept (s : State) : ChargerKept s s.ownRound := by
  have counted : ChargerKept s s.roundCounted := .of_charging rfl (.inl rfl)
  have aged (u : State) : ChargerKept u u.peersAged := by
    simp only [peersAged]
    split
    exacts [(logKind_chargerKept _ _).after rfl rfl, .of_charging rfl (.inl rfl)]
  have begun (u : State) : ChargerKept u u.beginSweepIfNone := .of_charging (by simp [charging]) (.inl (by simp))
  rw [ownRound_eq, agePeers_eq]
  exact (((counted.trans (aged _)).trans (judgePartner_chargerKept _)).trans (hingeRound_chargerKept _)).trans (begun _)

/-! ### The start -/

theorem enterReady_chargerKept (s : State) : ChargerKept s s.enterReady := by
  have marks : ChargerKept s (s.withStation { s.station with latchPending := false, mutePending := false }) :=
    .of_charging rfl (.inl rfl)
  simp only [enterReady]
  refine marks.trans ?_
  split
  · exact enterMute_chargerKept _
  · split
    exacts [enterLatched_chargerKept _, become_chargerKept rfl _]

theorem ready_chargerKept (s : State) : ChargerKept s s.ready := by
  have timed (u : State) (v : RoundUnit) : ChargerKept u (u.withRound v) := .of_charging rfl (.inl rfl)
  have offered (u : State) (l : LineController) : ChargerKept u (u.withLine l) := .of_charging rfl (.inl rfl)
  simp only [ready]
  generalize hu : requestSweep _ = u
  have requested : ChargerKept s u := hu ▸ ((enterReady_chargerKept s).trans (timed _ _)).trans (requestSweep_chargerKept _)
  split
  exacts [(requested.trans (offered _ _)).trans (judgePartner_chargerKept _), requested.trans (offered _ _)]

theorem endListen_chargerKept (s : State) : ChargerKept s s.endListen := by
  have recorded (u : State) (v : StartSequencer) : ChargerKept u (u.withStart v) := .of_charging rfl (.inl rfl)
  exact ((advance_chargerKept _ s).trans (recorded _ _)).trans (ready_chargerKept _)

theorem endStraps_chargerKept (s0 s1 s2 s3 : Fin 16) (foldHigh : Bool) (s : State) :
    ChargerKept s (s.endStraps s0 s1 s2 s3 foldHigh) := by
  simp only [endStraps]
  split
  exacts [(raise_chargerKept _ _).after rfl rfl, .of_charging rfl (.inl rfl)]

theorem endProfile_chargerKept (packId vCell : Nat) (s : State) : ChargerKept s (s.endProfile packId vCell) := by
  simp only [endProfile]
  split
  exacts [(raise_chargerKept _ _).after rfl rfl, .of_charging rfl (.inl rfl)]

theorem endCellCheck_chargerKept (vCell : Nat) (tCell : Int) (s : State) : ChargerKept s (s.endCellCheck vCell tCell) := by
  simp only [endCellCheck]
  split
  exacts [.of_charging rfl (.inl rfl), (raise_chargerKept _ _).after rfl rfl]

/-- After any reset the charger is in HOLD_OFF with nothing handed (R113). -/
theorem reset_chargerSound {t : State} (charger : t.charger = .reset) (apply : t.apply = .reset) : t.ChargerSound := by
  have sound : State.reset.ChargerSound := by decide
  rw [chargerSound_iff] at sound ⊢
  obtain ⟨form, -, handed⟩ := sound
  rw [Handed, charger, apply]
  exact ⟨form, fun _ => rfl, handed⟩

/-! ### The sweep -/

/-- The charger after step 2 of R5 is its own sweep of the readings taken (R118). -/
theorem swept_charger (r : Readings) (s : State) : (s.swept r).charger =
    let ch := s.round.channels.judge s.start.straps.inputFitted r
    (s.charger.sweep s.profile s.station.state s.policy.ceiling (s.measured r).1.q ch.iCell.plausible ch.iCell.value
      ch.vCell.value ch.tCell.value (s.gauge.interval (s.clock - r.lag))).1 := by
  obtain ⟨charger, profile, gauge, -⟩ := sweepGauge_takeReadings r s
  rw [swept, sweepCharger_charger, charger, profile, gauge, sweepGauge_round, sweepGauge_station, sweepGauge_policy]
  rfl

theorem swept_chargerKept (r : Readings) (s : State) : ChargerKept s (s.swept r) := by
  have apply : (s.swept r).apply = s.apply := by simp [swept]
  rw [ChargerKept, chargerSound_iff, chargerSound_iff, Handed, Handed, swept_station, apply, swept_charger]
  rintro ⟨form, rests, handed⟩
  rw [Charger.sweep_setpoint.1, Charger.sweep_setpoint.2]
  exact ⟨Charger.sweep_inForm form.1, Charger.sweep_restsIn rests, handed⟩

/-- Steps 1 to 5 of a sweep's completion (R5). -/
theorem sweptRaised_chargerKept (r : Readings) (s : State) : ChargerKept s (s.sweptRaised r) := by
  have port (u : State) : ChargerKept u u.sweepPort := .of_charging (by simp [charging]) (.inl (by simp))
  have hinge (u : State) : ChargerKept u u.sweepHinge := by
    have held : ChargerKept u (((u.withHinge (u.hinge.check u.round.channels.iHinge).1).count .linkUnanswered).withApply
        { u.apply with unansweredHold := true }) := .of_charging rfl (.inl rfl)
    simp only [sweepHinge]
    split
    exacts [held.trans (setLink_chargerKept 0 _), .of_charging rfl (.inl rfl)]
  exact (((swept_chargerKept r s).trans (port _)).trans (hinge _)).trans (raiseAll_chargerKept _ _)

/-- The composition run with its reports, and the setpoints handed over (R5 steps 6 and 7). -/
theorem readyToCompose_chargerKept (s : State) : ChargerKept s s.readyToCompose := by
  have recorded : ChargerKept s s.recordedL := .of_charging (by simp [charging, recordedL]) (.inl (by simp [recordedL]))
  have run : ChargerKept s.recordedL s.runTaken := (replaceProposal_chargerKept _ _ _).trans (.of_charging rfl (.inl rfl))
  have reported : ChargerKept s.runTaken s.shortfallReported := by
    simp only [shortfallReported]
    split
    exacts [raise_chargerKept _ _, .refl _]
  have counted (u : State) (b : Bool) (k : Corrected) : ChargerKept u (u.countIf b k) :=
    .of_charging (by simp [charging]) (.inl (by simp))
  exact (((recorded.trans run).trans reported).trans (counted _ _ _)).trans (handAll_chargerKept _)

theorem completeSweep_chargerKept (r : Readings) (s : State) : ChargerKept s (s.completeSweep r) := by
  obtain ⟨station, apply, -, -, charger⟩ := completeSweep_blocks r s
  exact ((sweptRaised_chargerKept r s).trans (readyToCompose_chargerKept _)).trans
    (.of_charging (by rw [charging, charger, apply]; rfl) (.inl (by rw [station])))

/-! ### Posts heard -/

theorem arrivalRunIfDue_chargerKept (s : State) : ChargerKept s s.arrivalRunIfDue := by
  simp only [arrivalRunIfDue]
  split
  · exact .refl s
  · split
    · rw [arrivalRun_eq]
      refine (replaceProposal_chargerKept _ _ s).trans
        (.of_bearing ((countIf_bearing _ _ _).trans (servePost_bearing _ _ _)) (by simp [runReplaced]) ?_)
      rw [countIf_apply, servePost_apply]
      rfl
    · exact .refl s

theorem serveArrival_chargerKept (s : State) : ChargerKept s s.serveArrival := by
  have freed : ChargerKept s s.freed := .of_charging rfl (.inl rfl)
  rw [serveArrival_eq]
  exact (freed.trans (arrivalRunIfDue_chargerKept _)).trans (judgeLink_chargerKept _)

theorem takeArrival_chargerKept (source : BitVec 3) (post : StatePost) (s : State) :
    ChargerKept s (s.takeArrival source post) := by
  have counted : ChargerKept s (s.count .lineCrc) := .of_charging rfl (.inl rfl)
  have taken (st : StationState) : ChargerKept s (s.takeEntry source post st) := by
    have written : ChargerKept s (s.entryWritten source post st) :=
      .of_charging (by simp [charging, entryWritten]) (.inl (by simp [entryWritten]))
    rw [takeEntry_eq]
    exact written.trans (judgePartner_chargerKept _)
  simp only [takeArrival]
  split
  · exact counted
  · split
    · split
      exacts [(taken _).trans (serveArrival_chargerKept _), taken _]
    · exact counted

theorem takeClash_chargerKept (s : State) : ChargerKept s s.takeClash := by
  simp only [takeClash]
  refine ((endReception_chargerKept s).trans (raise_chargerKept .addressClash _)).trans ?_
  generalize s.endReception.raise .addressClash = u
  simp only [clash]
  split
  case h_1 => exact .of_charging rfl (.inl rfl)
  case h_5 | h_6 => exact .refl u
  all_goals exact enterMute_chargerKept u

theorem item_chargerKept (item argument : Byte) (s : State) : ChargerKept s (s.item item argument).1 := by
  rw [item_blocks]
  exact .of_charging rfl (.inl rfl)

theorem takeQuery_chargerKept (target : Byte) {act : State → State × ReplyContents} (h : ∀ s, ChargerKept s (act s).1)
    (s : State) : ChargerKept s (s.takeQuery target act) := by
  have heard := endReception_chargerKept s
  have replied (u : State) (a : ReplyContents) : ChargerKept u (u.handReply a) :=
    .of_charging (by simp [charging]) (.inl (by simp))
  cases hr : s.receiving
  · rw [takeQuery, hr]; exact .refl s
  · rcases s.takeQuery_cases target act hr with ⟨-, e⟩ | ⟨-, -, e⟩ | ⟨-, -, e⟩ <;> rw [e]
    · exact heard
    · exact heard.trans (.of_charging rfl (.inl rfl))
    · exact (heard.trans (h _)).trans (replied _ _)

/-! ### Orders -/

/-- SHELF is entered before the charger is led into HOLD_OFF: on the way it holds what is handed, whatever its phase (R126). -/
theorem enterShelf_chargerKept (s : State) : ChargerKept s s.enterShelf := by
  intro sound
  obtain ⟨-, -, handed⟩ := (chargerSound_iff s).mp sound
  have unloaded : s.unloaded.Handed := by
    simp only [State.unloaded, Handed, setLink_charger]
    rw [setLink_eq, setDraw_eq]
    exact setCharge_handed 0 handed
  refine chargerSound_of_holdOff unloaded ?_ ?_ <;> rw [enterShelf_eq]
  exacts [queueFinal_charger _, queueFinal_apply _]

theorem shelfOrder_chargerKept (vIn : Nat) (s : State) : ChargerKept s (s.shelfOrder vIn) := by
  simp only [shelfOrder]
  split
  exacts [(enterShelf_chargerKept s).trans (settleShelf_chargerKept _ _), .refl s]

/-- A release ends the held timeout, and with it what the timeout asks (R126). -/
theorem released_chargerKept (s : State) : ChargerKept s (s.withCharger s.charger.released) := by
  rw [ChargerKept, chargerSound_iff, chargerSound_iff]
  rintro ⟨⟨⟨-, idle, few, stay⟩, band⟩, rests, handed⟩
  exact ⟨⟨⟨nofun, idle, few, stay⟩, band⟩, rests, handed⟩

theorem leaveLatched_chargerKept (s : State) : ChargerKept s s.leaveLatched := by
  have closed : ChargerKept s ((s.withFault { s.fault with dischargeClosed := true }).become .solo) :=
    .of_charging rfl (.inr rfl)
  have judged := (closed.trans (requestSweep_chargerKept _)).trans (judgePartner_chargerKept _)
  have probed (u : State) (p : InputPort) : ChargerKept u (u.withPort p) := .of_charging rfl (.inl rfl)
  exact ((judged.trans (released_chargerKept _)).trans (releaseHinge_chargerKept _)).trans (probed _ _)

theorem releaseOrder_chargerKept (s : State) : ChargerKept s s.releaseOrder := by
  simp only [releaseOrder]
  split
  case h_2 | h_3 => exact releaseHinge_chargerKept s
  case h_4 =>
    split
    exacts [leaveLatched_chargerKept s, .refl s]
  all_goals exact .refl s

theorem takeLimit_chargerKept (post : LimitPost) (vIn : Nat) (s : State) : ChargerKept s (s.takeLimit post vIn) := by
  have stored (contract : Option Nat) : ChargerKept s (s.storeContract contract) := by
    simp only [storeContract]
    split
    exacts [.of_charging rfl (.inl rfl), (setDraw_chargerKept _ _).after rfl rfl]
  have policy (u : State) (p : Policy) : ChargerKept u (u.withPolicy p) := .of_charging rfl (.inl rfl)
  simp only [takeLimit]
  generalize hu : requestSweep _ = u
  have requested : ChargerKept s u := hu ▸ ((stored _).trans (policy _ _)).trans (requestSweep_chargerKept _)
  cases orderStored post.order
  exacts [requested, requested.trans (shelfOrder_chargerKept vIn _), requested.trans (releaseOrder_chargerKept _)]

/-! ### The line -/

theorem takeSent_chargerKept (p : Setting) (s : State) : ChargerKept s (s.takeSent p) := by
  have posted : ChargerKept s (s.withApply { s.apply with posted := some p }) := .of_charging rfl (.inl rfl)
  simp only [takeSent]
  refine ChargerKept.trans ?_ (judgeLink_chargerKept _)
  generalize hu : State.setDraw _ _ = u
  have drawn : ChargerKept s u := hu ▸ posted.trans (setDraw_chargerKept _ _)
  split
  exacts [drawn, drawn.trans (setCharge_chargerKept _ _)]

theorem ownStateSent_chargerKept (q : Queued OwnState) (s : State) : ChargerKept s (s.ownStateSent q) := by
  have left : ChargerKept s (s.posting q) := .of_charging rfl (.inl rfl)
  have taken := left.trans (takeSent_chargerKept q.post.contents.setting _)
  have sent : ChargerKept ((s.posting q).takeSent q.post.contents.setting) (s.sent q) := .of_charging rfl (.inl rfl)
  have released (u : State) : ChargerKept u u.releaseHeld := .of_charging (by simp [charging]) (.inl (by simp))
  rw [ownStateSent_eq]
  exact (taken.trans sent).trans (released _)

/-- An own STATE settled writes the apply unit's pending rewrite at most (R65). -/
theorem settleRetry_chargerKept (s : State) : ChargerKept s s.settleRetry := by
  refine .of_bearing (settleRetry_bearing s) (settleRetry_charger s) ?_
  simp only [settleRetry, releaseHeld_apply]
  split <;> rfl

theorem echoMismatch_chargerKept (k : PostKind) (read : List Bool) (s : State) :
    ChargerKept s (s.echoMismatch k read).1 := by
  have stopped : ChargerKept s ((s.stopSending read).count .lineBit) := .of_charging rfl (.inl rfl)
  simp only [echoMismatch]
  refine stopped.trans ?_
  generalize (s.stopSending read).count .lineBit = u
  cases k with
  | alert => exact .of_charging rfl (.inl rfl)
  | reply => exact .of_charging rfl (.inl rfl)
  | state =>
    simp only [abortPost]
    split
    · exact .refl u
    · split
      · exact (settleRetry_chargerKept _).after rfl rfl
      · exact .of_bearing (removeState_bearing u) (removeState_charger u) (by simp [removeState])

theorem echoAbort_chargerKept (k : PostKind) (read : List Bool) (s : State) : ChargerKept s (s.echoAbort k read) := by
  simp only [echoAbort]
  split
  exacts [(echoMismatch_chargerKept k read s).trans (raise_chargerKept _ _), echoMismatch_chargerKept k read s]

theorem failFinal_chargerKept (s : State) : ChargerKept s s.failFinal :=
  .of_charging (by simp [charging]) (.inl (by simp))

theorem stuckStation_chargerKept (s : State) : ChargerKept s s.stuckStation := by
  have held : ChargerKept s (s.withStation { s.station with stuckHold := true }) := .of_charging rfl (.inl rfl)
  simp only [stuckStation]
  split
  case h_3 => exact held.trans (leavePaired_chargerKept _)
  case h_5 => exact failFinal_chargerKept s
  case h_6 => exact .refl s
  all_goals exact held

theorem lineStuck_chargerKept (heard : List Bool) (s : State) : ChargerKept s (s.lineStuck heard) := by
  have stuck : ChargerKept s (s.withLine { s.line with stuck := true, offering := false }) := .of_charging rfl (.inl rfl)
  have aborted (u : State) : ChargerKept u u.abortRunning.1 := by
    simp only [abortRunning]
    split
    exacts [.refl u, echoMismatch_chargerKept _ _ u]
  have discarded (u : State) : ChargerKept u (u.discardBuffer heard) := .of_charging (by simp [charging]) (.inl (by simp))
  have done := (((stuck.trans (aborted _)).trans (discarded _)).trans (raise_chargerKept .lineStuck _)).trans
    (stuckStation_chargerKept _)
  simp only [lineStuck]
  split
  exacts [done.trans (raise_chargerKept _ _), done]

theorem tripCell_chargerKept (vCell : Nat) (iCell : Int) (s : State) : ChargerKept s (s.tripCell vCell iCell) :=
  (raiseAll_chargerKept _ _).after rfl rfl

theorem inputOvervolt_chargerKept (s : State) : ChargerKept s s.inputOvervolt :=
  .of_charging (by simp [charging]) (.inl (by simp))

/-! ### Every command -/

theorem exec_chargerKept {c : Instr} {s t : State} (h : exec c s = .next t) : ChargerKept s t := by
  cases c
  case powerOnReset | warmReset => cases h; exact fun _ => reset_chargerSound rfl rfl
  case resetNRise => cases h; split; exacts [.refl s, .of_charging rfl (.inl rfl)]
  case strapsComplete => cases h; split; exacts [endStraps_chargerKept _ _ _ _ _ s, .refl s]
  case profileComplete => cases h; split; exacts [endProfile_chargerKept _ _ s, .refl s]
  case cellCheckComplete => cases h; split; exacts [endCellCheck_chargerKept _ _ s, .refl s]
  case listenEnd => cases h; split; exacts [endListen_chargerKept s, .refl s]
  case ownRoundExpiry =>
    cases h; split; exacts [.refl s, (advance_chargerKept _ s).trans (ownRound_chargerKept _)]
  case sweepComplete => cases h; split; exacts [completeSweep_chargerKept _ s, .refl s]
  case foldEdge =>
    cases h; split
    · exact .of_charging rfl (.inl rfl)
    · split
      exacts [fun _ => reset_chargerSound rfl rfl, .of_charging (by simp [charging]) (.inl (by simp))]
  case foldWindowExpiry =>
    cases h; split
    · exact .refl s
    · exact (advance_chargerKept _ s).trans ((requestSweep_chargerKept _).after rfl rfl)
  case stateArrival source post vIn =>
    cases h; split
    · exact .refl s
    · split
      · exact takeClash_chargerKept s
      · split
        exacts [endReception_chargerKept s,
          ((endReception_chargerKept s).trans (takeArrival_chargerKept _ _ _)).trans (settleShelf_chargerKept _ _)]
  case limit post vIn =>
    cases h; split
    · exact .refl s
    · split
      exacts [(endReception_chargerKept s).trans (takeLimit_chargerKept _ _ _), endReception_chargerKept s]
  case shelfOrder => cases h; exact shelfOrder_chargerKept _ s
  case release => cases h; exact releaseOrder_chargerKept s
  case readFirst target argument => cases h; exact takeQuery_chargerKept _ (item_chargerKept 1 argument) s
  case readNext target argument => cases h; exact takeQuery_chargerKept _ (item_chargerKept 2 argument) s
  case clearLog target argument => cases h; exact takeQuery_chargerKept _ (item_chargerKept 5 argument) s
  case badItem => cases h; exact takeQuery_chargerKept _ (item_chargerKept _ _) s
  case readCounters | readFlags | clearCounters | ackPin | readProfile | readStart =>
    cases h; exact takeQuery_chargerKept _ (fun _ => .of_charging rfl (.inl rfl)) s
  case addressClash => cases h; split; exacts [takeClash_chargerKept s, .refl s]
  case invalidPost =>
    cases h; split; exacts [.of_charging (by simp [charging]) (.inl (by simp)), .refl s]
  case discardedPost => cases h; split; exacts [endReception_chargerKept s, .refl s]
  case ownStateSent =>
    cases h; split; exacts [(ownStateSent_chargerKept _ s).trans (settleShelf_chargerKept _ _), .refl s]
  case lostArbitration =>
    have stopped (read : List Bool) : ChargerKept s (s.stopSending read) := .of_charging rfl (.inl rfl)
    cases h; split
    case h_1 => exact .refl s
    case h_2 => exact (stopped _).trans (settleRetry_chargerKept _)
    all_goals exact stopped _
  case echoAbort => cases h; split; exacts [.refl s, (echoAbort_chargerKept _ _ s).trans (settleShelf_chargerKept _ _)]
  case lineStuck => cases h; split; exacts [(lineStuck_chargerKept _ s).trans (settleShelf_chargerKept _ _), .refl s]
  case shelfWaitExpiry =>
    cases h; split
    · exact .refl s
    · split
      exacts [((advance_chargerKept _ s).trans (failFinal_chargerKept _)).trans (settleShelf_chargerKept _ _), .refl s]
  case wakeEvent => cases h; split; exacts [fun _ => reset_chargerSound rfl rfl, .refl s]
  case probeStepEnd =>
    cases h; split; exacts [(advance_chargerKept _ s).trans (.of_charging rfl (.inl rfl)), .refl s]
  case undervoltageTrip =>
    cases h; split; exacts [(requestSweep_chargerKept _).after rfl rfl, .refl s]
  case inputOvervolt => cases h; split; exacts [(inputOvervolt_chargerKept s).trans (settleShelf_chargerKept _ _), .refl s]
  case hingeTrip => cases h; split; exacts [(hingeTrip_chargerKept s).trans (settleShelf_chargerKept _ _), .refl s]
  case thresholdLowering =>
    cases h; split; exacts [.refl s, (advance_chargerKept _ s).trans (.of_charging rfl (.inl rfl))]
  case cellOvervolt | cellOvercurrent =>
    cases h; split; exacts [(tripCell_chargerKept _ _ s).trans (settleShelf_chargerKept _ _), .refl s]
  case lineIdle | alertSent | replySent | wakeWaitingForHigh | probeComparatorTrip =>
    cases h; split; exacts [.of_charging rfl (.inl rfl), .refl s]
  case comparatorNoLongerAsserted => cases h; exact .of_charging rfl (.inl rfl)

theorem tick_chargerKept (s : State) : ChargerKept s s.tick := by
  have edge : ChargerKept s s.otherEdge := .of_charging (by simp [charging]) (.inl (by simp))
  have filled (u : State) (cs : List Instr) : ChargerKept u (u.withPending cs) := .of_charging rfl (.inl rfl)
  simp only [tick]
  refine edge.trans (ChargerKept.trans ?_ (filled _ _))
  split
  exacts [advance_chargerKept 1 _, .refl _]

theorem step_chargerKept {s t : State} (h : step s = .next t) : ChargerKept s t := by
  have taken (rest : List Instr) : ChargerKept s (s.withPending rest) := .of_charging rfl (.inl rfl)
  simp only [step] at h
  split at h
  · cases h; exact tick_chargerKept s
  · exact (taken _).trans (exec_chargerKept h)

end State
end Sys2Proof.Machine

open Sys2Proof Sys2Proof.Machine

/-- Settles O59: a charger led out of HOLD_OFF may charge there, and every other way the charger takes ends in HOLD_OFF or keeps
its phase. -/
theorem stepKeepsCharger : Obligations.StepKeepsCharger :=
  fun _ _ sound h => State.step_chargerKept h sound
end

section
/-!
SUPPORT. The charger at a sweep (R115 to R125): its transition written out, and what steps 3 to 8 of the completion leave of it.
-/

namespace Sys2Proof.Machine

/-- Every profile's voltages lie above what its thresholds take off them (R20, R21). -/
theorem deepMv_cast (n : Fin 9) : ((profileRow n).deepMv : Int) = (profileRow n).cutoffMv - 200 := by decide +revert

theorem rechargeMv_cast (n : Fin 9) : ((profileRow n).rechargeMv : Int) = (profileRow n).chargeMv - 100 := by decide +revert

namespace Charger

/-! ### The transition (R119) -/

/-- The phase that a transition leads to, where `may` says whether charging is permitted (R119). -/
def phaseAfter (p : Profile) (may ok : Bool) (i v : Int) (c : Charger) : Phase :=
  match c.phase with
  | .holdOff => if may && decide (0 < c.setpoint) then (if v < prechargeMv then .precharge else .bulk) else .holdOff
  | .precharge => if !may then .holdOff else if prechargeMv ≤ v then .bulk else .precharge
  | .bulk => if !may then .holdOff else if regulationMv p c.band ≤ v then .taper else .bulk
  | .taper => if !may then .holdOff else if 2 ≤ c.terminationJudged p ok i then .full else .taper
  | .full => if may && decide (v < p.rechargeMv) then .bulk else .full

/-- Whether a transition to `next` restarts the safety timers (R124). -/
def restarts (next : Phase) (c : Charger) : Bool :=
  (decide (c.phase = .holdOff) && decide (next ≠ .holdOff) && decide (c.stay = 600000)) ||
    (decide (c.phase = .full) && decide (next = .bulk))

section
variable (p : Profile) (st : StationState) (ok : Bool) (i v : Int) (c : Charger)

theorem transition_phase : (c.transition p st ok i v).phase = c.phaseAfter p (c.permitted st) ok i v := by
  cases phase : c.phase <;>
    simp only [transition, phaseAfter, phase, leaveHoldOff, enterHoldOff, apply_ite Charger.phase]

variable {p ok i v c}

/-- A move writes phase and count, restarts the timers where R124 says so, and the hold-off stay at entry into HOLD_OFF. -/
theorem Moves.eq {d : Charger} (m : Moves p ok i v c d) : d = { c with
    phase := d.phase, termination := d.termination
    prechargeTimer := if c.restarts d.phase then 0 else c.prechargeTimer
    bulkTimer := if c.restarts d.phase then 0 else c.bulkTimer
    stay := if d.phase = .holdOff ∧ c.phase ≠ .holdOff then 0 else c.stay } := by
  cases m with
  | stays phase =>
    have still : c.restarts c.phase = false := by cases h : c.phase <;> simp [restarts, h]
    simp [still]
  | leaves phase => simp only [leaveHoldOff, restarts, phase]; split <;> simp
  | ends phase => simp [restarts, enterHoldOff, phase]
  | counts phase | charges phase | tapers phase | fills phase | recharges phase => simp [restarts, phase]

/-- The count goes on in TAPER, and another phase entered clears it (R119, R121). -/
theorem Moves.termination {d : Charger} (m : Moves p ok i v c d) :
    (c.phase = .taper → d.phase = .taper → d.termination = c.terminationJudged p ok i) ∧
      (c.phase ≠ d.phase → d.phase ≠ .taper → d.termination = 0) := by
  cases m with
  | stays phase => exact ⟨fun taper => absurd taper phase, fun moved => absurd rfl moved⟩
  | counts => exact ⟨fun _ _ => rfl, fun moved => absurd rfl moved⟩
  | leaves phase => exact ⟨fun taper => by simp [phase] at taper, fun _ _ => rfl⟩
  | ends => exact ⟨fun _ => nofun, fun _ _ => rfl⟩
  | charges => exact ⟨fun _ => nofun, fun _ _ => rfl⟩
  | tapers phase => exact ⟨fun taper => by simp [phase] at taper, fun _ other => absurd rfl other⟩
  | fills => exact ⟨fun _ => nofun, fun _ _ => rfl⟩
  | recharges => exact ⟨fun _ => nofun, fun _ _ => rfl⟩

end

/-! ### Bounds written out -/

theorem timerExpired_iff (p : Profile) (c : Charger) :
    c.timerExpired p = true ↔ 1800000 ≤ c.prechargeTimer ∨ p.limitMin * 60000 ≤ c.bulkTimer := by
  rw [timerExpired, Bool.or_eq_true, decide_eq_true_eq, decide_eq_true_eq]
  rfl

/-- The ceiling judged (R116): latched from the ceiling on, free from 20 below it, and between as before. -/
theorem capped_cases (ceiling q : Nat) (c : Charger) :
    let d := c.capped ceiling q
    (ceiling = 1000 → d.ceilingLatch = false ∧ d.ceilingHolds = true) ∧
      (ceiling ≠ 1000 → ceiling ≤ q → d.ceilingLatch = true ∧ d.ceilingHolds = false) ∧
      (ceiling ≠ 1000 → q + 20 < ceiling → d.ceilingLatch = false ∧ d.ceilingHolds = true) ∧
      (ceiling ≠ 1000 → q < ceiling → ceiling ≤ q + 20 →
        d.ceilingLatch = c.ceilingLatch ∧ d.ceilingHolds = !c.ceilingLatch) := by
  simp only [capped, latchJudged, ceilingCondition]
  refine ⟨fun whole => by simp [whole], fun part reached => ?_, fun part free => ?_, fun part below near => ?_⟩
  · have notFree : ¬q < ceiling - 20 := by omega
    simp [part, reached, notFree]
  · have notReached : ¬ceiling ≤ q := by omega
    simp [part, notReached, show q < ceiling - 20 by omega, show q < ceiling by omega]
  · have notReached : ¬ceiling ≤ q := by omega
    have notFree : ¬q < ceiling - 20 := by omega
    cases c.ceilingLatch <;> simp [part, notReached, notFree, below]

/-- Charging is permitted from 0 to 55 degrees (R115, R117). -/
theorem permitted_eq (st : StationState) {c : Charger} {t2 : Int} (band : c.band = some (bandOf t2)) : c.permitted st =
    (decide (0 ≤ t2) && decide (t2 < 110) && c.ceilingHolds && !c.timeoutHeld &&
      (decide (st = .solo) || decide (st = .paired) || decide (st = .mute))) := by
  have warm : decide (0 < chargeFactor c.band) = (decide (0 ≤ t2) && decide (t2 < 110)) := by
    rw [band, chargeFactor_bandOf, ← Bool.decide_and, decide_eq_decide]
    repeat' split
    all_goals omega
  have station : stationCharges st = (decide (st = .solo) || decide (st = .paired) || decide (st = .mute)) := by
    cases st <;> rfl
  rw [permitted, warm, station, Bool.and_right_comm _ _ (!c.timeoutHeld)]

/-- The regulation voltage is lower by 100 mV in the band from 45 to 55 degrees (R114, R115). -/
theorem regulationMv_eq (n : Fin 9) (t2 : Int) : (regulationMv (profileRow n) (some (bandOf t2)) : Int) =
    (profileRow n).chargeMv - if 90 ≤ t2 ∧ t2 < 110 then 100 else 0 := by
  have lowered : (((profileRow n).chargeMv - 100 : Nat) : Int) = (profileRow n).chargeMv - 100 := rechargeMv_cast n
  have hot : some (bandOf t2) = some .from45To55 ↔ 90 ≤ t2 ∧ t2 < 110 := by
    simp only [bandOf]
    repeat' split
    all_goals simp only [Option.some.injEq, reduceCtorEq, true_iff, false_iff]; omega
  simp only [regulationMv, hot]
  split <;> omega

/-- The count of a sweep in TAPER, written out (R121). -/
theorem terminationJudged_eq (p : Profile) (ok : Bool) (i : Int) (c : Charger) : c.terminationJudged p ok i =
    if ok = false ∨ i < 0 then c.termination
    else if (p.taperMa : Int) ≤ i then 0
    else if c.limitMa < p.taperMa then c.termination else c.termination + 1 := by
  cases ok <;> simp [terminationJudged]

/-! ### What the later steps leave -/

/-- A charge that has not risen from 0 moves no phase but at its fall to 0 (R120). -/
theorem hand_unrisen (st : StationState) (v : Int) (p ma : Nat) {c : Charger}
    (noRise : ¬((c.setpoint = 0 ∧ 0 < p) ∧ c.phase = .holdOff ∧ c.permitted st = true)) : c.hand st v p ma =
      if (0 < c.setpoint ∧ p = 0) ∧ (c.phase = .precharge ∨ c.phase = .bulk ∨ c.phase = .taper)
      then { c with setpoint := p, limitMa := ma }.enterHoldOff else { c with setpoint := p, limitMa := ma } := by
  split
  · rename_i fall
    exact hand_fall _ _ _ _ fall.1 fall.2
  · rename_i noFall
    exact hand_stored _ _ _ _ noRise noFall

/-- What a move leaves once the charge is handed, where it may be `gone` and end the charging (R119, R120, R121, R124). -/
theorem Moves.handed {p : Profile} {ok : Bool} {i v : Int} {c d e : Charger} (m : Moves p ok i v c d) {g l : Nat} {gone : Prop}
    [Decidable gone] (he : e =
      if gone ∧ (d.phase = .precharge ∨ d.phase = .bulk ∨ d.phase = .taper)
      then { d with setpoint := g, limitMa := l }.enterHoldOff else { d with setpoint := g, limitMa := l }) :
    e.phase = (if gone ∧ (d.phase = .precharge ∨ d.phase = .bulk ∨ d.phase = .taper) then .holdOff else d.phase) ∧
      e.prechargeTimer = (if c.restarts d.phase then 0 else c.prechargeTimer) ∧
      e.bulkTimer = (if c.restarts d.phase then 0 else c.bulkTimer) ∧
      (c.phase = .taper → e.phase = .taper → e.termination = c.terminationJudged p ok i) ∧
      (c.phase ≠ e.phase → e.phase ≠ .taper → e.termination = 0) ∧
      e.stay = if e.phase = .holdOff ∧ (c.phase ≠ .holdOff ∨ d.phase ≠ .holdOff) then 0 else c.stay := by
  have precharge := congrArg Charger.prechargeTimer m.eq
  have bulk := congrArg Charger.bulkTimer m.eq
  have stay := congrArg Charger.stay m.eq
  by_cases ends : gone ∧ (d.phase = .precharge ∨ d.phase = .bulk ∨ d.phase = .taper)
  · have charges : d.phase ≠ .holdOff := by rcases ends.2 with h | h | h <;> rw [h] <;> exact nofun
    rw [if_pos ends] at he ⊢
    subst he
    exact ⟨rfl, precharge, bulk, fun _ => nofun, fun _ _ => rfl, (if_pos ⟨rfl, .inr charges⟩).symm⟩
  · obtain ⟨counted, cleared⟩ := m.termination
    rw [if_neg ends] at he ⊢
    subst he
    refine ⟨rfl, precharge, bulk, counted, cleared, stay.trans (if_congr ?_ rfl rfl)⟩
    exact and_congr_right fun rests => ⟨.inl, fun h => h.resolve_right (not_not.mpr rests)⟩

/-- `d` is `c` with its charge, its phase and what entry into HOLD_OFF writes moved at most, and unmoved where `c` was at rest in
HOLD_OFF already. -/
structure Quenched (c d : Charger) : Prop where
  keeps : d = { c with
    phase := d.phase, termination := d.termination, stay := d.stay, setpoint := d.setpoint, limitMa := d.limitMa }
  rests : c.phase = .holdOff → c.termination = 0 → c.stay = 0 → d.phase = .holdOff ∧ d.termination = 0 ∧ d.stay = 0

theorem Quenched.refl (c : Charger) : Quenched c c := ⟨rfl, fun phase count stay => ⟨phase, count, stay⟩⟩

theorem Quenched.trans {c d e : Charger} (h : Quenched c d) (k : Quenched d e) : Quenched c e := by
  refine ⟨?_, fun phase count stay => ?_⟩
  · rw [k.keeps, h.keeps]
  · obtain ⟨phase', count', stay'⟩ := h.rests phase count stay
    exact k.rests phase' count' stay'

theorem enterHoldOff_quenched (c : Charger) : Quenched c c.enterHoldOff := ⟨rfl, fun _ _ _ => ⟨rfl, rfl, rfl⟩⟩

theorem hand_zero_quenched (st : StationState) (v : Int) (ma : Nat) (c : Charger) : Quenched c (c.hand st v 0 ma) := by
  have stored : Quenched c { c with setpoint := 0, limitMa := ma } :=
    ⟨rfl, fun phase count stay => ⟨phase, count, stay⟩⟩
  rw [hand_unrisen _ _ _ _ (by omega)]
  split
  exacts [stored.trans (enterHoldOff_quenched _), stored]

end Charger

namespace State

theorem setCharge_zero_quenched (s : State) : s.charger.Quenched (s.setCharge 0).charger := by
  by_cases same : 0 = s.apply.charge
  · rw [setCharge_same same]
    exact .refl _
  · rw [setCharge_changed same]
    exact Charger.hand_zero_quenched _ _ _ _

theorem enterLatched_quenched (s : State) : s.charger.Quenched s.enterLatched.charger := by
  simp only [enterLatched, requestSweep_charger, requestSweepIf_charger, become_charger, withPort_charger,
    withCharger_charger, setLink_charger]
  exact (setCharge_zero_quenched (s.withFault { s.fault with dischargeClosed := false })).trans
    (Charger.enterHoldOff_quenched _)

theorem haltingEffect_quenched (s : State) : s.charger.Quenched s.haltingEffect.charger := by
  have uncharged := setCharge_zero_quenched (s.withFault { s.fault with dischargeClosed := false })
  simp only [haltingEffect]
  split
  case h_1 | h_2 => exact enterLatched_quenched s
  case h_3 | h_4 | h_6 => exact .refl _
  case h_5 =>
    split
    exacts [uncharged, uncharged.trans (Charger.enterHoldOff_quenched _)]

/-- The kinds of one event move a charger into HOLD_OFF at most (R171). -/
theorem raiseAll_quenched (ks : List Kind) (s : State) : s.charger.Quenched (s.raiseAll ks).charger := by
  induction ks generalizing s with
  | nil => exact .refl _
  | cons k ks ih =>
    refine Charger.Quenched.trans ?_ (ih (s.raise k))
    simp only [raise]
    split
    · rw [← logKind_charger k s]
      exact haltingEffect_quenched _
    · rw [logKind_charger]
      exact .refl _

/-- A charge applied and then handed again is handed once, with the later limit (R59, R120). -/
theorem setCharge_hand (c ma : Nat) (s : State) :
    (s.setCharge c).charger.hand s.station.state s.round.channels.vCell.value c ma =
      s.charger.hand s.station.state s.round.channels.vCell.value c ma := by
  by_cases same : c = s.apply.charge
  · rw [setCharge_same same]
  · rw [setCharge_changed same]
    exact Charger.hand_hand _ _ _ _ _ _

theorem replaceProposal_charger (r : Setting) (code : Nat) (s : State) :
    (s.replaceProposal r code).charger = (s.setCharge (min s.apply.charge r.c.toNat)).charger := by
  simp only [replaceProposal, setLink_charger]
  rw [setDraw_eq]
  exact setCharge_charger_congr _ rfl rfl rfl rfl

/-- The composition hands the charger the charge that it leaves applied, at the held V_cell (R59, R63). -/
theorem readyToCompose_hand (s : State) : s.readyToCompose.charger =
    s.charger.hand s.station.state s.round.channels.vCell.value s.readyToCompose.apply.charge
      s.readyToCompose.apply.chargeMa := by
  obtain ⟨-, -, -, -, charge, -⟩ := s.readyToCompose_apply
  rw [charge, ← setCharge_hand]
  have run : s.runTaken.charger = (s.setCharge (min s.apply.charge s.compositionRun.1.setting.c.toNat)).charger := by
    have same : s.recordedL.apply = s.apply := by simp [recordedL]
    rw [runTaken, accrue_charger, replaceProposal_charger, same]
    exact setCharge_charger_congr _ (by simp [recordedL]) (by rw [same]) (by rw [recordedL_round]) (by simp [recordedL])
  generalize hu : s.shortfallReported.countIf s.compositionRun.2.unordered .allotUnordered = u
  have charger : u.charger = s.runTaken.charger := by rw [← hu, countIf_charger, shortfallReported_eq]
  have round : u.round.channels = s.round.channels := by
    rw [← hu, countIf_round, shortfallReported_eq, runTaken_round, recordedL_round]
  have station : u.station = s.station := by rw [← hu, countIf_station, shortfallReported_eq, runTaken_station]
  have ready : s.readyToCompose = u.handAll := by rw [← hu]; rfl
  rw [← run, ← charger, ← station, ← round, ← charge, ready]
  rfl

section
variable {r : Readings} {s : State}

/-- The charger that a completed sweep leaves has been handed the charge it leaves applied. -/
theorem completeSweep_hand (flight : s.round.inFlight = true) : (s.completeSweep r).charger =
    (s.sweptRaised r).charger.hand (s.sweptRaised r).station.state (s.completeSweep r).round.channels.vCell.value
      (s.completeSweep r).apply.charge (s.completeSweep r).apply.chargeMa := by
  obtain ⟨-, apply, -, -, charger⟩ := completeSweep_blocks r s
  rw [charger, apply, readyToCompose_hand, sweptRaised_channels flight]

theorem sweptRaised_quenched : (s.swept r).charger.Quenched (s.sweptRaised r).charger := by
  have stages : (s.sweptStages r).charger = (s.swept r).charger := by simp [sweptStages]
  rw [← stages]
  exact raiseAll_quenched _ _

/-! ### Step 2, from the state -/

/-- The charger with the sweep's band, its interval counted (R115, R123). -/
def chargerTimed (r : Readings) (s : State) : Charger :=
  let ch := s.round.channels.judge s.start.straps.inputFitted r
  s.charger.timed ch.iCell.plausible ch.iCell.value ch.tCell.value (s.gauge.interval (s.clock - r.lag))

/-- And with its ceiling judged, as its transition finds it (R116). -/
def chargerJudged (r : Readings) (s : State) : Charger :=
  (s.chargerTimed r).capped s.policy.ceiling (s.measured r).1.q

/-- Whether a safety timer runs out at the sweep (R125). -/
def TimerOut (r : Readings) (s : State) : Prop :=
  (s.chargerTimed r).timerExpired s.profile = true ∧ s.charger.timeoutHeld = false

/-- The moves of R119 on the sweep's readings. -/
def ChargerMoves (r : Readings) (s : State) : Charger → Charger → Prop :=
  let ch := s.round.channels.judge s.start.straps.inputFitted r
  Charger.Moves s.profile ch.iCell.plausible ch.iCell.value ch.vCell.value

theorem swept_charger_out (out : s.TimerOut r) :
    (s.swept r).charger = { (s.chargerTimed r).enterHoldOff with timeoutHeld := true } := by
  rw [swept_charger]
  exact Charger.sweep_expired out.1 out.2

theorem swept_charger_transition (runs : ¬s.TimerOut r) : (s.swept r).charger =
    let ch := s.round.channels.judge s.start.straps.inputFitted r
    (s.chargerJudged r).transition s.profile s.station.state ch.iCell.plausible ch.iCell.value ch.vCell.value := by
  rw [swept_charger]
  exact Charger.sweep_transition runs

theorem swept_charger_moves (runs : ¬s.TimerOut r) : s.ChargerMoves r (s.chargerJudged r) (s.swept r).charger := by
  rw [swept_charger_transition runs]
  exact Charger.transition_moves

/-! ### The completion -/

/-- What the charger keeps from step 2 to the end of the completion, and what it has been handed. -/
theorem completeSweep_keeps_charger (flight : s.round.inFlight = true) :
    let d := (s.completeSweep r).charger
    d.setpoint = (s.completeSweep r).apply.charge ∧ d.limitMa = (s.completeSweep r).apply.chargeMa ∧
      d.band = (s.swept r).charger.band ∧ d.timeoutHeld = (s.swept r).charger.timeoutHeld ∧
      d.ceilingLatch = (s.swept r).charger.ceilingLatch ∧ d.ceilingHolds = (s.swept r).charger.ceilingHolds := by
  obtain ⟨keeps, -⟩ := sweptRaised_quenched (r := r) (s := s)
  obtain ⟨setpoint, limit, band, timeout, latch, ceiling, -⟩ := (s.sweptRaised r).charger.hand_setpoint
    (s.sweptRaised r).station.state (s.completeSweep r).round.channels.vCell.value (s.completeSweep r).apply.charge
    (s.completeSweep r).apply.chargeMa
  rw [completeSweep_hand flight]
  refine ⟨setpoint, limit, ?_, ?_, ?_, ?_⟩
  exacts [by rw [band, keeps], by rw [timeout, keeps], by rw [latch, keeps], by rw [ceiling, keeps]]

/-- A charger that a safety timer has led into HOLD_OFF stays at rest there to the end of the completion (R125). -/
theorem completeSweep_rested (flight : s.round.inFlight = true) (phase : (s.swept r).charger.phase = .holdOff)
    (held : (s.swept r).charger.timeoutHeld = true) (count : (s.swept r).charger.termination = 0)
    (stay : (s.swept r).charger.stay = 0) : (s.sweptRaised r).charger.phase = .holdOff ∧
      (s.completeSweep r).charger = { (s.swept r).charger with
        setpoint := (s.completeSweep r).charger.setpoint, limitMa := (s.completeSweep r).charger.limitMa } := by
  obtain ⟨keeps, rests⟩ := sweptRaised_quenched (r := r) (s := s)
  obtain ⟨phase', count', stay'⟩ := rests phase count stay
  refine ⟨phase', ?_⟩
  have refused : (s.sweptRaised r).charger.permitted (s.sweptRaised r).station.state ≠ true := fun may => by
    rw [keeps] at may
    have free : (s.swept r).charger.timeoutHeld = false := Charger.permitted_timeout may
    rw [held] at free
    cases free
  rw [completeSweep_hand flight, Charger.hand_stored _ _ _ _ (fun rise => refused rise.2.2) (by simp [phase']), keeps]
  simp [phase, count, stay, phase', count', stay']

/-- Neither hot nor deep nor at a timer's limit, a sweep raises no kind that halts (R166). -/
theorem sweptKinds_degraded (flight : s.round.inFlight = true) (cool : (s.completeSweep r).round.channels.tCell.value ≤ 120)
    (charged : (s.profile.cutoffMv : Int) - 200 ≤ (s.completeSweep r).round.channels.vCell.value)
    (free : (s.completeSweep r).charger.timeoutHeld = s.charger.timeoutHeld) :
    ∀ k ∈ s.sweptKinds r, k.severity = .degraded := by
  intro k mem
  rcases (mem_sweptKinds r s flight k).mp mem with ⟨-, hot⟩ | ⟨-, low⟩ | ⟨-, out⟩ | ⟨suspect, -⟩
  · omega
  · have deep : (s.profile.deepMv : Int) = s.profile.cutoffMv - 200 := deepMv_cast _
    omega
  · obtain ⟨held, before⟩ := (sweptTimeout_iff r s).mp out
    rw [free, before] at held
    cases held
  · rw [suspect]; rfl

/-- Where no kind halts, the phase that step 2 leaves is left again at most for the charge (R120). -/
theorem completeSweep_calm (flight : s.round.inFlight = true) (calm : ∀ k ∈ s.sweptKinds r, k.severity = .degraded)
    (handed : s.charger.setpoint = s.apply.charge) : (s.sweptRaised r).charger = (s.swept r).charger ∧
      (s.completeSweep r).charger =
        let d := { (s.swept r).charger with
          setpoint := (s.completeSweep r).apply.charge, limitMa := (s.completeSweep r).apply.chargeMa }
        if (0 < s.charger.setpoint ∧ (s.completeSweep r).apply.charge = 0) ∧ ((s.swept r).charger.phase = .precharge ∨
          (s.swept r).charger.phase = .bulk ∨ (s.swept r).charger.phase = .taper) then d.enterHoldOff else d := by
  have still : (s.sweptRaised r).charger = (s.swept r).charger := by
    rw [sweptRaised, raiseAll_degraded calm]
    simp [sweptStages]
  have setpoint : (s.swept r).charger.setpoint = s.charger.setpoint := by
    rw [swept_charger]
    exact Charger.sweep_setpoint.1
  refine ⟨still, ?_⟩
  rw [completeSweep_hand flight, still, ← setpoint]
  refine Charger.hand_unrisen _ _ _ _ fun rise => ?_
  obtain ⟨⟨zero, pos⟩, -⟩ := rise
  have before : (s.swept r).apply.charge = 0 := by rw [← zero, setpoint, handed]; simp [swept]
  have raised : (s.sweptRaised r).apply.charge = 0 := (sweptRaised_follows r s).charge.elim (·.trans before) id
  obtain ⟨-, apply, -⟩ := completeSweep_blocks r s
  obtain ⟨-, -, -, -, charge, -⟩ := (s.sweptRaised r).readyToCompose_apply
  rw [apply, charge, raised, Nat.zero_min] at pos
  exact absurd pos (lt_irrefl 0)

/-- A safety timer that runs out ends the charging, and the charger rests in HOLD_OFF to the end of the completion (R125). -/
theorem completeSweep_charger_out (flight : s.round.inFlight = true) (out : s.TimerOut r) :
    let d := (s.completeSweep r).charger
    d.phase = .holdOff ∧ (s.sweptContents r).phase = .holdOff ∧ d.timeoutHeld = true ∧ d.termination = 0 ∧ d.stay = 0 ∧
      d.prechargeTimer = (s.chargerTimed r).prechargeTimer ∧ d.bulkTimer = (s.chargerTimed r).bulkTimer ∧
      d.ceilingLatch = s.charger.ceilingLatch := by
  have halted := swept_charger_out out
  obtain ⟨posted, rested⟩ := completeSweep_rested flight (by rw [halted]; rfl) (by rw [halted]) (by rw [halted]; rfl)
    (by rw [halted]; rfl)
  rw [rested, halted]
  exact ⟨rfl, posted, rfl, rfl, rfl, rfl, rfl, rfl⟩

/-- Otherwise the phase that the transition leads to is posted, and where no kind halts it is left at most for the charge. -/
theorem completeSweep_charger_runs (flight : s.round.inFlight = true) (runs : ¬s.TimerOut r)
    (cool : (s.completeSweep r).round.channels.tCell.value ≤ 120)
    (charged : (s.profile.cutoffMv : Int) - 200 ≤ (s.completeSweep r).round.channels.vCell.value)
    (handed : s.charger.setpoint = s.apply.charge) :
    (s.sweptContents r).phase = (s.swept r).charger.phase ∧ (s.completeSweep r).charger =
      let d := { (s.swept r).charger with
        setpoint := (s.completeSweep r).apply.charge, limitMa := (s.completeSweep r).apply.chargeMa }
      if (0 < s.charger.setpoint ∧ (s.completeSweep r).apply.charge = 0) ∧ ((s.swept r).charger.phase = .precharge ∨
        (s.swept r).charger.phase = .bulk ∨ (s.swept r).charger.phase = .taper) then d.enterHoldOff else d := by
  have free : (s.completeSweep r).charger.timeoutHeld = s.charger.timeoutHeld := by
    obtain ⟨-, -, -, timeout, -⟩ := completeSweep_keeps_charger (r := r) flight
    rw [timeout, (swept_charger_moves runs).eq]
    rfl
  obtain ⟨still, final⟩ := completeSweep_calm flight (sweptKinds_degraded flight cool charged free) handed
  exact ⟨congrArg Charger.phase still, final⟩

end

end State
end Sys2Proof.Machine

open Sys2Proof Sys2Proof.Machine

/-- Settles O29: the charger after step 2 is its own sweep, written out row by row, and past it only a HALTING kind or the fall of
the charge to 0 moves the phase. -/
theorem sweepCharger : Obligations.SweepCharger := by
  intro r s flight handed
  obtain ⟨setpoint, limit, band, timeout, latch, holds⟩ := State.completeSweep_keeps_charger (r := r) flight
  refine ⟨_, s.sweptContents r, State.exec_sweepComplete flight, by rw [State.completeSweep_round_eq flight], setpoint, limit,
    fun v i t2 vHeld iHeld tHeld => ?_⟩
  have channels : (s.completeSweep r).round.channels = s.round.channels.judge s.start.straps.inputFitted r := by
    rw [State.completeSweep_round_eq flight]
  intro interval plausible from0 counts precharged bulked expired ceiling q permitted regulation ended next begins again loses
  have vValue := Channel.value_of_held vHeld
  have iValue := Channel.value_of_held iHeld
  have tValue := Channel.value_of_held tHeld
  have gauging : (s.measured r).1.q = q := by
    simp only [q, State.measured, plausible, ← vValue, ← iValue, channels]
  have timed : s.chargerTimed r = from0.timed plausible i t2 interval := by
    rw [State.chargerTimed, ← channels, iValue, tValue]
    rfl
  have judged : s.chargerJudged r = (from0.timed plausible i t2 interval).capped ceiling q := by
    rw [State.chargerJudged, timed, gauging]
  have out : expired ↔ s.TimerOut r := by
    rw [State.TimerOut, timed, Charger.timerExpired_iff]
    exact and_comm
  have kept (h : ¬expired) : (s.swept r).charger.timeoutHeld = from0.timeoutHeld ∧
      (s.swept r).charger.ceilingLatch = (s.chargerJudged r).ceilingLatch ∧
      (s.swept r).charger.ceilingHolds = (s.chargerJudged r).ceilingHolds := by
    rw [(State.swept_charger_moves (out.not.mp h)).eq]
    exact ⟨rfl, rfl, rfl⟩
  have count : (s.chargerJudged r).terminationJudged s.profile plausible i = ended := by
    rw [judged]
    exact Charger.terminationJudged_eq _ _ _ _
  have reached (h : ¬expired) : (s.swept r).charger.phase = next := by
    obtain ⟨-, -, cap⟩ := kept h
    have may : (s.chargerJudged r).permitted s.station.state = permitted := by
      rw [Charger.permitted_eq (t2 := t2) _ (by rw [judged]; rfl), ← cap, ← holds, judged]
      rfl
    have regulated : (regulationMv s.profile (s.chargerJudged r).band : Int) = regulation := by
      rw [judged]
      exact Charger.regulationMv_eq _ _
    have low : v < s.profile.rechargeMv ↔ v + 100 < s.profile.chargeMv := by
      have recharge : (s.profile.rechargeMv : Int) = s.profile.chargeMv - 100 := rechargeMv_cast _
      omega
    rw [State.swept_charger_transition (out.not.mp h), Charger.transition_phase, ← channels, vValue, iValue]
    change (s.chargerJudged r).phaseAfter s.profile _ plausible i v = next
    simp only [Charger.phaseAfter, may, regulated, count, low]
    rw [judged]
    rfl
  refine ⟨?_, fun h => ?_, fun h => ⟨?_, ?_⟩, fun noFull => ?_, fun h cool charged => ?_⟩
  · rw [band, State.swept_band, ← channels, tValue]
    rfl
  · have halted := State.completeSweep_charger_out flight (out.mp h)
    rwa [timed] at halted
  · rw [timeout, (kept h).1]
  · obtain ⟨-, latched, cap⟩ := kept h
    rw [latch, holds, latched, cap, judged]
    exact Charger.capped_cases _ _ _
  · have same : ¬s.EntersFull r := fun enters => by
      by_cases h : expired
      · have rests := congrArg Charger.phase (State.swept_charger_out (out.mp h))
        rw [enters.2] at rests
        cases rests
      · exact noFull ⟨enters.1, (reached h).symm.trans enters.2⟩
    rw [State.completeSweep_gauge, State.swept_gauge, if_neg same, gauging]
  · obtain ⟨posted, final⟩ := State.completeSweep_charger_runs flight (out.not.mp h) (tValue.trans_le cool)
      (charged.trans_eq vValue.symm) handed
    have settled := (State.swept_charger_moves (out.not.mp h)).handed final
    have falls : loses = true ↔ 0 < from0.setpoint ∧ (s.completeSweep r).apply.charge = 0 := by simp [loses]
    rw [← channels, iValue, count, judged, reached h] at settled
    simp only [falls]
    exact ⟨posted.trans (reached h), settled⟩
end

section
/-!
SUPPORT. The transmit queue in form (R128, R139): its posts, the one in transmission, and what a post that joins or leaves keeps
of them (R133, R140).
-/

namespace Sys2Proof.Machine.LineController

/-! ### What a sound line controller says -/

/-- The posts in form: at most four, of which two REPLY, each with at most three echo aborts (R128, R133). -/
structure Stocked (l : LineController) : Prop where
  four : l.waiting ≤ 4
  two : l.replies.length ≤ 2
  alerts : ∀ q ∈ l.alerts, q.aborts ≤ 3
  state : ∀ q ∈ l.state, q.aborts ≤ 3
  replies : ∀ q ∈ l.replies, q.aborts ≤ 3

/-- A post of the kind is in the queue. -/
def Waits (l : LineController) : PostKind → Prop
  | .alert => l.alerts ≠ []
  | .state => l.state ≠ none
  | .reply => l.replies ≠ []

theorem sound_iff (l : LineController) :
    l.Sound ↔ l.Stocked ∧ (∀ k ∈ l.sending, l.Waits k) ∧ (l.stuck = true → l.offering = false) := by
  constructor
  · rintro ⟨four, two, alerts, state, replies, alert, own, reply, quiet⟩
    refine ⟨⟨four, two, alerts, state, replies⟩, fun k sent => ?_, quiet⟩
    cases k
    exacts [alert sent, own sent, reply sent]
  · rintro ⟨⟨four, two, alerts, state, replies⟩, sent, quiet⟩
    exact ⟨four, two, alerts, state, replies, sent .alert, sent .state, sent .reply, quiet⟩

/-- The kind at the head of the queue (R139). -/
theorem head_eq {l : LineController} (posts : l.waiting ≠ 0) :
    l.head = some (if l.alerts ≠ [] then .alert else if l.state ≠ none then .state else .reply) := by
  by_cases alerts : l.alerts = []
  · by_cases state : l.state = none
    · have replies : l.replies ≠ [] := by simpa [waiting, alerts, state] using posts
      simp [head, alerts, state, replies]
    · simp [head, alerts, state, Option.isSome_iff_ne_none]
  · simp [head, alerts]

theorem waits_of_head {l : LineController} {k : PostKind} (h : l.head = some k) : l.Waits k := by
  simp only [head] at h
  split at h
  next alert => cases h; simpa [Waits] using alert
  split at h
  next state => cases h; simpa [Waits, Option.isSome_iff_ne_none] using state
  split at h
  next reply => cases h; simpa [Waits] using reply
  cases h

/-! ### Posts that leave -/

section
variable {l m : LineController}

/-- A queue with no post that was not there before stays in form. -/
theorem Stocked.of_fewer (h : l.Stocked) (alerts : m.alerts.Sublist l.alerts) (state : m.state = l.state ∨ m.state = none)
    (replies : m.replies.Sublist l.replies) : m.Stocked where
  four := by
    have fewer : (if m.state.isSome then 1 else 0) ≤ (if l.state.isSome then 1 else 0) := by
      rcases state with e | e <;> simp [e]
    exact le_trans (Nat.add_le_add (Nat.add_le_add alerts.length_le fewer) replies.length_le) h.four
  two := replies.length_le.trans h.two
  alerts q hq := h.alerts q (alerts.subset hq)
  state q hq := by
    rcases state with e | e <;> rw [e] at hq
    exacts [h.state q hq, nomatch hq]
  replies q hq := h.replies q (replies.subset hq)

/-- With the transmission over any posts may have left. -/
theorem Sound.of_fewer (sound : l.Sound) (alerts : m.alerts.Sublist l.alerts) (state : m.state = l.state ∨ m.state = none)
    (replies : m.replies.Sublist l.replies) (stopped : m.sending = none)
    (still : m.offering = false ∨ (m.offering = l.offering ∧ m.stuck = l.stuck)) : m.Sound := by
  obtain ⟨stocked, -, quiet⟩ := l.sound_iff.mp sound
  refine m.sound_iff.mpr ⟨stocked.of_fewer alerts state replies, by simp [stopped], fun stuck => ?_⟩
  rcases still with silent | ⟨offering, same⟩
  exacts [silent, offering.trans (quiet (same ▸ stuck))]

/-- A REPLY waits that is not in transmission (R140). -/
def FreeReply (l : LineController) : Prop :=
  (if l.sending = some .reply then 1 else 0) < l.replies.length

theorem dropReply_free (free : l.FreeReply) : l.dropReply = some { l with replies := l.replies.dropLast } :=
  if_neg (not_le.mpr free)

theorem dropReply_none (held : ¬l.FreeReply) : l.dropReply = none :=
  if_pos (not_lt.mp held)

/-- The newest REPLY gives way: the one in transmission stays, and there is room for a post (R140). -/
theorem Sound.withoutReply (sound : l.Sound) (free : l.FreeReply) :
    { l with replies := l.replies.dropLast }.Sound ∧ { l with replies := l.replies.dropLast }.waiting < 4 := by
  obtain ⟨stocked, sent, quiet⟩ := l.sound_iff.mp sound
  have fewer := List.dropLast_sublist l.replies
  refine ⟨(sound_iff _).mpr ⟨stocked.of_fewer (.refl _) (.inl rfl) fewer, fun k sending => ?_, quiet⟩, ?_⟩
  · cases k with
    | alert => exact sent .alert sending
    | state => exact sent .state sending
    | reply =>
      have two : 1 < l.replies.length := by simpa [FreeReply, show l.sending = some .reply from sending] using free
      exact List.ne_nil_of_length_pos (by rw [List.length_dropLast]; omega)
  · have four := stocked.four
    have one : 0 < l.replies.length := Nat.zero_lt_of_lt free
    simp only [waiting, List.length_dropLast] at four ⊢
    omega

/-- The STATE gives way where it is not in transmission (R140). -/
theorem Sound.withoutState (sound : l.Sound) (idle : l.sending ≠ some .state) : { l with state := none }.Sound := by
  obtain ⟨stocked, sent, quiet⟩ := l.sound_iff.mp sound
  refine (sound_iff _).mpr ⟨stocked.of_fewer (.refl _) (.inr rfl) (.refl _), fun k sending => ?_, quiet⟩
  cases k with
  | alert => exact sent .alert sending
  | state => exact absurd sending idle
  | reply => exact sent .reply sending

/-! ### Posts that join -/

/-- A kind that waits still does where none of the lists has become empty. -/
theorem Waits.mono {k : PostKind} (waits : l.Waits k) (alerts : l.alerts ≠ [] → m.alerts ≠ [])
    (state : l.state ≠ none → m.state ≠ none) (replies : l.replies ≠ [] → m.replies ≠ []) : m.Waits k := by
  cases k
  exacts [alerts waits, state waits, replies waits]

theorem Sound.joinAlert (sound : l.Sound) (room : l.waiting < 4) (a : AlertContents) :
    LineController.Sound { l with alerts := l.alerts ++ [⟨a, 0⟩] } := by
  obtain ⟨⟨-, two, alerts, state, replies⟩, sent, quiet⟩ := l.sound_iff.mp sound
  refine (sound_iff _).mpr ⟨⟨?_, two, ?_, state, replies⟩,
    fun k sending => (sent k sending).mono (fun _ => List.append_ne_nil_of_right_ne_nil _ (List.cons_ne_nil _ _)) id id, quiet⟩
  · simp only [waiting, List.length_append, List.length_singleton] at room ⊢
    omega
  · simpa [or_imp, forall_and] using alerts

theorem Sound.joinReply (sound : l.Sound) (room : l.waiting < 4) (two : l.replies.length < 2) (r : ReplyContents) :
    LineController.Sound { l with replies := l.replies ++ [⟨r, 0⟩] } := by
  obtain ⟨⟨-, -, alerts, state, replies⟩, sent, quiet⟩ := l.sound_iff.mp sound
  refine (sound_iff _).mpr ⟨⟨?_, ?_, alerts, state, ?_⟩,
    fun k sending => (sent k sending).mono id id fun _ => List.append_ne_nil_of_right_ne_nil _ (List.cons_ne_nil _ _), quiet⟩
  · simp only [waiting, List.length_append, List.length_singleton] at room ⊢
    omega
  · simpa using two
  · simpa [or_imp, forall_and] using replies

/-- An own STATE stands in place of one that waits, or joins a queue with room (R18, R140). -/
theorem Sound.putState (sound : l.Sound) (room : l.state ≠ none ∨ l.waiting < 4) {q : Queued OwnState}
    (few : q.aborts ≤ 3) : { l with state := some q }.Sound := by
  obtain ⟨⟨four, two, alerts, state, replies⟩, sent, quiet⟩ := l.sound_iff.mp sound
  refine (sound_iff _).mpr ⟨⟨?_, two, alerts, ?_, replies⟩,
    fun k sending => (sent k sending).mono id (fun _ => Option.some_ne_none q) id, quiet⟩
  · cases h : l.state <;> simp [waiting, h] at room four ⊢ <;> omega
  · rintro _ ⟨⟩
    exact few

/-! ### The three kinds of post taken (R140) -/

theorem takeAlert_free (a : AlertContents) (full : 4 ≤ l.waiting) (free : l.FreeReply) :
    l.takeAlert a = ({ l with alerts := l.alerts ++ [⟨a, 0⟩], replies := l.replies.dropLast }, true) := by
  simp [takeAlert, not_lt.mpr full, dropReply_free free]

theorem takeAlert_displaces (a : AlertContents) (full : 4 ≤ l.waiting) (held : ¬l.FreeReply) (state : l.state ≠ none)
    (idle : l.sending ≠ some .state) :
    l.takeAlert a = ({ l with alerts := l.alerts ++ [⟨a, 0⟩], state := none }, true) := by
  simp [takeAlert, not_lt.mpr full, dropReply_none held, dropState, Option.isSome_iff_ne_none, state, idle]

theorem takeAlert_dropped (a : AlertContents) (full : 4 ≤ l.waiting) (held : ¬l.FreeReply)
    (kept : l.state = none ∨ l.sending = some .state) : l.takeAlert a = (l, true) := by
  have stays : l.dropState = none := if_neg fun ⟨waits, idle⟩ =>
    kept.elim (fun state => by simp [state] at waits) idle
  simp [takeAlert, not_lt.mpr full, dropReply_none held, stays]

theorem takeAlert_sound (a : AlertContents) (sound : l.Sound) : (l.takeAlert a).1.Sound := by
  by_cases room : l.waiting < 4
  · rw [State.takeAlert_room a room]
    exact sound.joinAlert room a
  have full := not_lt.mp room
  by_cases free : l.FreeReply
  · rw [takeAlert_free a full free]
    obtain ⟨left, less⟩ := sound.withoutReply free
    exact left.joinAlert less a
  by_cases kept : l.state = none ∨ l.sending = some .state
  · rw [takeAlert_dropped a full free kept]
    exact sound
  · obtain ⟨state, idle⟩ := not_or.mp kept
    obtain ⟨q, waits⟩ := Option.ne_none_iff_exists'.mp state
    obtain ⟨stocked, -, -⟩ := l.sound_iff.mp sound
    rw [takeAlert_displaces a full free state idle]
    exact (sound.withoutState idle).joinAlert (lt_of_lt_of_le (State.waiting_state_none l waits) stocked.four) a

theorem takeState_sound (p : OwnState) (sound : l.Sound) : (l.takeState p).1.Sound := by
  cases state : l.state with
  | some q =>
    rw [takeState_waiting p l q state]
    exact sound.putState (.inl (by simp [state])) (Nat.zero_le 3)
  | none =>
    by_cases room : l.waiting < 4
    · rw [takeState_room p l state room]
      exact sound.putState (.inr room) (Nat.zero_le 3)
    by_cases free : l.FreeReply
    · obtain ⟨left, less⟩ := sound.withoutReply free
      simp only [takeState, state, if_neg room, dropReply_free free]
      exact left.putState (.inr less) (Nat.zero_le 3)
    · simp only [takeState, state, if_neg room, dropReply_none free]
      exact sound

theorem takeReply_sound (r : ReplyContents) (sound : l.Sound) (two : l.replies.length < 2) : (l.takeReply r).1.Sound := by
  rcases l.takeReply_cases r with ⟨room, e⟩ | ⟨-, e⟩ <;> rw [e]
  exacts [sound.joinReply room two r, sound]

end

end Sys2Proof.Machine.LineController

open Sys2Proof Sys2Proof.Machine

/-- Settles O46: the cases of R140 in their order, each ALERT that joins finding room. -/
theorem queueTakesAlert : Obligations.QueueTakesAlert := fun a _ sound =>
  ⟨State.takeAlert_room a, fun full => LineController.takeAlert_free a full.ge,
    fun full => LineController.takeAlert_displaces a full.ge, fun full => LineController.takeAlert_dropped a full.ge,
    LineController.takeAlert_sound a sound⟩
end

section
/-!
SUPPORT. What the operations of the machine keep of the transmit queue (R128, R138, R139), and every step.
-/

namespace Sys2Proof.Machine.State

/-- `t` keeps the line controller of `s` in form. -/
def QueueKept (s t : State) : Prop :=
  s.line.Sound → t.line.Sound

theorem QueueKept.refl (s : State) : QueueKept s s := id

theorem QueueKept.trans {s t u : State} (h : QueueKept s t) (k : QueueKept t u) : QueueKept s u := k ∘ h

theorem QueueKept.of_line {s t : State} (line : t.line = s.line) : QueueKept s t := fun sound => line ▸ sound

/-- What is kept from a state of the same line on. -/
theorem QueueKept.after {s t u : State} (k : QueueKept t u) (line : t.line = s.line) : QueueKept s u :=
  (QueueKept.of_line line).trans k

/-- A reset leaves an empty queue (R128). -/
theorem QueueKept.of_reset {s t : State} (line : t.line = .reset) : QueueKept s t :=
  fun _ => line ▸ (by decide : LineController.reset.Sound)

/-! ### Posts handed to the queue -/

theorem handAlert_queueKept (a : AlertContents) (s : State) : QueueKept s (s.handAlert a) := by
  intro sound
  simp only [handAlert]
  split
  · rw [countIf_line]
    exact LineController.takeAlert_sound a sound
  · exact sound

theorem handState_queueKept (p : OwnState) (s : State) : QueueKept s (s.handState p) := by
  intro sound
  simp only [handState]
  split
  · split
    · exact sound
    · rw [countIf_line]
      exact LineController.takeState_sound p sound
  · exact sound

/-- A REPLY is handed only while fewer than two wait (R179). -/
theorem handReply_queueKept (a : ReplyContents) {s : State} (two : s.line.replies.length < 2) :
    QueueKept s (s.handReply a) := by
  intro sound
  simp only [handReply]
  split
  · rw [countIf_line]
    exact LineController.takeReply_sound a sound two
  · exact sound

theorem releaseHeld_queueKept (s : State) : QueueKept s s.releaseHeld := by
  simp only [releaseHeld]
  split
  exacts [.refl s, (handState_queueKept _ _).after rfl]

/-! ### The log -/

theorem logKind_queueKept (k : Kind) (s : State) : QueueKept s (s.logKind k) := by
  simp only [logKind]
  split
  · exact .refl s
  · split
    exacts [.of_line rfl, (handAlert_queueKept _ _).after rfl]

/-- What a HALTING kind does to the station leaves the line (R171). -/
theorem raise_queueKept (k : Kind) (s : State) : QueueKept s (s.raise k) := by
  simp only [raise]
  split
  exacts [(logKind_queueKept k s).trans (.of_line (haltingEffect_line _)), logKind_queueKept k s]

theorem raiseAll_queueKept (ks : List Kind) (s : State) : QueueKept s (s.raiseAll ks) := by
  induction ks generalizing s with
  | nil => exact .refl s
  | cons k ks ih => exact (raise_queueKept k s).trans (ih _)

/-! ### Changes of station state -/

theorem enterMute_queueKept (s : State) : QueueKept s s.enterMute := by
  intro sound
  rw [enterMute_line]
  exact sound.of_fewer (List.nil_sublist _) (.inr rfl) (List.nil_sublist _) rfl (.inl rfl)

theorem judgePartner_queueKept (s : State) : QueueKept s s.judgePartner := by
  have crowd : QueueKept s s.judgeCrowd := by
    simp only [judgeCrowd]
    split
    · split
      exacts [.refl s, (logKind_queueKept _ _).after rfl]
    · exact .of_line rfl
  rcases s.judgePartner_cases with e | e | e <;> rw [e]
  exacts [crowd, crowd.trans (.of_line (by simp)), crowd.trans (.of_line (by simp))]

theorem ownRound_queueKept (s : State) : QueueKept s s.ownRound := by
  have aged (u : State) : QueueKept u u.peersAged := by
    simp only [peersAged]
    split
    exacts [(logKind_queueKept _ _).after rfl, .of_line rfl]
  have counted : QueueKept s s.roundCounted := .of_line rfl
  rw [ownRound_eq, agePeers_eq]
  exact ((counted.trans (aged _)).trans (judgePartner_queueKept _)).trans (.of_line (by simp))

theorem hingeTrip_queueKept (s : State) : QueueKept s s.hingeTrip := by
  have barred : QueueKept s (s.withHinge (s.hinge.trip s.round.stamp).1) := .of_line rfl
  exact (barred.trans (raiseAll_queueKept _ _)).trans (.of_line (setLink_line 0 _))

/-! ### The start -/

theorem enterReady_queueKept (s : State) : QueueKept s s.enterReady := by
  simp only [enterReady]
  split
  · exact (enterMute_queueKept _).after rfl
  · split
    exacts [.of_line (by simp), .of_line rfl]

/-- READY offers the queue, but on a stuck line (R138, R151). -/
theorem ready_queueKept (s : State) : QueueKept s s.ready := by
  have offered (u : State) (b : Bool) : QueueKept u (u.withLine { u.line with offering := b && !u.line.stuck }) := by
    intro sound
    obtain ⟨stocked, sent, -⟩ := (LineController.sound_iff _).mp sound
    refine (LineController.sound_iff _).mpr ⟨stocked.of_fewer (.refl _) (.inl rfl) (.refl _), sent, ?_⟩
    simp +contextual
  simp only [ready]
  generalize hu : requestSweep _ = u
  have requested : QueueKept s u := hu ▸ (enterReady_queueKept s).trans (.of_line (by simp))
  split
  exacts [(requested.trans (offered _ _)).trans (judgePartner_queueKept _), requested.trans (offered _ _)]

theorem endListen_queueKept (s : State) : QueueKept s s.endListen :=
  (ready_queueKept _).after (advance_line (s.start.listenLeft.getD 0) s)

theorem endStraps_queueKept (s0 s1 s2 s3 : Fin 16) (foldHigh : Bool) (s : State) :
    QueueKept s (s.endStraps s0 s1 s2 s3 foldHigh) := by
  simp only [endStraps]
  split
  exacts [(raise_queueKept _ _).after rfl, .of_line rfl]

theorem endProfile_queueKept (packId vCell : Nat) (s : State) : QueueKept s (s.endProfile packId vCell) := by
  simp only [endProfile]
  split
  exacts [(raise_queueKept _ _).after rfl, .of_line rfl]

theorem endCellCheck_queueKept (vCell : Nat) (tCell : Int) (s : State) : QueueKept s (s.endCellCheck vCell tCell) := by
  simp only [endCellCheck]
  split
  exacts [.of_line rfl, (raise_queueKept _ _).after rfl]

/-! ### The sweep -/

theorem completeSweep_queueKept (r : Readings) (s : State) : QueueKept s (s.completeSweep r) := by
  have raised : QueueKept s (s.sweptRaised r) := (raiseAll_queueKept _ _).after (by simp [sweptStages, swept_line])
  have reported (u : State) : QueueKept u u.readyToCompose := by
    have shortfall : QueueKept u u.shortfallReported := by
      simp only [shortfallReported]
      split
      exacts [(raise_queueKept _ _).after (runTaken_line u), .of_line (runTaken_line u)]
    exact shortfall.trans (.of_line (by simp [readyToCompose]))
  rw [completeSweep_eq, sweepCompose_eq]
  exact (((raised.trans (reported _)).trans (.of_line (recordComposed_line _ _))).trans (handState_queueKept _ _)).trans
    (.of_line (endSweep_line _))

/-! ### Posts heard -/

theorem servePost_queueKept (r : Setting) (code : Nat) (s : State) : QueueKept s (s.servePost r code) := by
  intro sound
  cases state : s.line.state with
  | none => simpa [servePost, state] using sound
  | some q =>
    by_cases sending : s.line.sending = some .state
    · rw [(servePost_sending r code (by simp [state]) sending).2]
      exact sound
    · obtain ⟨stocked, -, -⟩ := (LineController.sound_iff _).mp sound
      rw [servePost_waiting r code state sending]
      exact sound.putState (.inl (by simp [state])) (stocked.state q state)

theorem serveArrival_queueKept (s : State) : QueueKept s s.serveArrival := by
  have run (u : State) : QueueKept u u.arrivalRunIfDue := by
    simp only [arrivalRunIfDue]
    split
    · exact .refl u
    · split
      · rw [arrivalRun_eq]
        exact ((servePost_queueKept _ _ _).after (runReplaced_line _ _)).trans (.of_line (countIf_line _ _ _))
      · exact .refl u
  rw [serveArrival_eq]
  have freed : QueueKept s s.freed := .of_line rfl
  exact (freed.trans (run _)).trans (.of_line (judgeLink_line _))

theorem takeArrival_queueKept (source : BitVec 3) (post : StatePost) (s : State) :
    QueueKept s (s.takeArrival source post) := by
  have taken (st : StationState) : QueueKept s (s.takeEntry source post st) := by
    rw [takeEntry_eq]
    exact (judgePartner_queueKept _).after (by simp [entryWritten])
  simp only [takeArrival]
  split
  · exact .of_line rfl
  · split
    · split
      exacts [(taken _).trans (serveArrival_queueKept _), taken _]
    · exact .of_line rfl

theorem endReception_queueKept (s : State) : QueueKept s s.endReception := id

theorem takeClash_queueKept (s : State) : QueueKept s s.takeClash := by
  simp only [takeClash]
  refine ((endReception_queueKept s).trans (raise_queueKept .addressClash _)).trans ?_
  generalize s.endReception.raise .addressClash = u
  simp only [clash]
  split
  case h_1 => exact .of_line rfl
  case h_5 | h_6 => exact .refl u
  all_goals exact enterMute_queueKept u

theorem item_line (item argument : Byte) (s : State) : (s.item item argument).1.line = s.line := by rw [item_blocks]

/-- The REPLY of a QUERY joins where fewer than two wait (R179). -/
theorem takeQuery_queueKept (target : Byte) {act : State → State × ReplyContents} (line : ∀ s, (act s).1.line = s.line)
    (s : State) : QueueKept s (s.takeQuery target act) := by
  have heard := endReception_queueKept s
  cases hr : s.receiving
  · rw [takeQuery, hr]; exact .refl s
  · rcases s.takeQuery_cases target act hr with ⟨-, e⟩ | ⟨-, -, e⟩ | ⟨-, two, e⟩ <;> rw [e]
    · exact heard
    · exact heard.trans (.of_line rfl)
    · exact heard.trans ((handReply_queueKept _ (by rw [line]; exact two)).after (line _))

/-! ### The end of an event in SHELF -/

theorem settleShelf_queueKept (vIn : Nat) (s : State) : QueueKept s (s.settleShelf vIn) := by
  rcases s.settleShelf_cases vIn with ⟨-, -, -, e⟩ | e <;> rw [e]
  · exact fun sound => sound.of_fewer (List.nil_sublist _) (.inr rfl) (List.nil_sublist _) rfl (.inl rfl)
  · exact .refl s

/-- The final STATE removed takes its own transmission with it (R142). -/
theorem failFinal_queueKept (s : State) : QueueKept s s.failFinal := by
  intro sound
  rcases s.failFinal_line_cases with e | e <;> rw [e]
  · exact sound
  · split
    · exact sound.of_fewer (.refl _) (.inr rfl) (.refl _) rfl (.inr ⟨rfl, rfl⟩)
    next idle => exact sound.withoutState idle

/-! ### Orders -/

theorem shelfOrder_queueKept (vIn : Nat) (s : State) : QueueKept s (s.shelfOrder vIn) := by
  have final (u : State) : QueueKept u u.queueFinal := by
    simp only [queueFinal]
    split
    exacts [.of_line rfl, (handState_queueKept _ _).after rfl]
  simp only [shelfOrder]
  split
  · rw [enterShelf_eq]
    exact ((final _).after (shelved_line s)).trans (settleShelf_queueKept _ _)
  · exact .refl s

theorem releaseOrder_queueKept (s : State) : QueueKept s s.releaseOrder := by
  have left : QueueKept s s.leaveLatched := by
    have judged : QueueKept s (((s.withFault { s.fault with dischargeClosed := true }).become .solo).requestSweep.judgePartner) :=
      (judgePartner_queueKept _).after (by simp)
    exact judged.trans (.of_line (by simp [leaveLatched]))
  simp only [releaseOrder]
  split
  case h_2 | h_3 => exact .of_line (releaseHinge_line s)
  case h_4 =>
    split
    exacts [left, .refl s]
  all_goals exact .refl s

theorem takeLimit_queueKept (post : LimitPost) (vIn : Nat) (s : State) : QueueKept s (s.takeLimit post vIn) := by
  simp only [takeLimit]
  generalize hu : requestSweep _ = u
  have line : u.line = s.line := by simp [← hu]
  cases orderStored post.order
  exacts [.of_line line, (shelfOrder_queueKept vIn u).after line, (releaseOrder_queueKept u).after line]

/-! ### The line -/

/-- A line that has become idle begins the head of its queue (R130, R139). -/
theorem lineIdle_queueKept (s : State) : QueueKept s s.lineIdle := by
  intro sound
  obtain ⟨stocked, sent, -⟩ := (LineController.sound_iff _).mp sound
  refine (LineController.sound_iff _).mpr ⟨stocked.of_fewer (.refl _) (.inl rfl) (.refl _), fun k sending => ?_, nofun⟩
  obtain ⟨begins, e⟩ : ∃ b : Bool, s.lineIdle.line.sending = if b then s.line.head else s.line.sending := ⟨_, rfl⟩
  rw [Option.mem_def, e] at sending
  split at sending
  exacts [LineController.waits_of_head sending, sent k sending]

/-- A post that leaves with its transmission over (R134). -/
theorem alertSent_queueKept (s : State) : QueueKept s
    (s.withLine { s.line with alerts := s.line.alerts.tail, sending := none, idleUs := 0, lowUs := 0 }) := by
  intro sound
  exact sound.of_fewer (List.tail_sublist _) (.inl rfl) (.refl _) rfl (.inr ⟨rfl, rfl⟩)

theorem replySent_queueKept (s : State) : QueueKept s
    (s.withLine { s.line with replies := s.line.replies.tail, sending := none, idleUs := 0, lowUs := 0 }) := by
  intro sound
  exact sound.of_fewer (.refl _) (.inl rfl) (List.tail_sublist _) rfl (.inr ⟨rfl, rfl⟩)

theorem ownStateSent_queueKept (q : Queued OwnState) (s : State) : QueueKept s (s.ownStateSent q) := by
  have left : QueueKept s (s.sent q) := by
    intro sound
    rw [sent_line]
    exact sound.of_fewer (.refl _) (.inr rfl) (.refl _) rfl (.inr ⟨rfl, rfl⟩)
  rw [ownStateSent_eq]
  exact left.trans (releaseHeld_queueKept _)

theorem stopSending_queueKept (read : List Bool) (s : State) : QueueKept s (s.stopSending read) := by
  intro sound
  exact sound.of_fewer (.refl _) (.inl rfl) (.refl _) rfl (.inr ⟨rfl, rfl⟩)

/-- A rewrite leaves the post its aborts (R65). -/
theorem settleRetry_queueKept (s : State) : QueueKept s s.settleRetry := by
  simp only [settleRetry]
  refine QueueKept.trans ?_ (releaseHeld_queueKept _)
  split
  · intro sound
    cases state : s.line.state with
    | none =>
      change LineController.Sound { s.line with state := none }
      rw [← state]
      exact sound
    | some q =>
      obtain ⟨stocked, -, -⟩ := (LineController.sound_iff _).mp sound
      exact sound.putState (q := { q with post := q.post.rewritten s.apply.proposal s.apply.code }) (.inl (by simp [state]))
        (stocked.state q state)
  · exact .of_line rfl

/-! ### A transmission that fails -/

/-- An echo abort takes the first post of its kind to three aborts at most, or removes it (R133). -/
theorem abortFirst_aborts {α : Type} {qs : List (Queued α)} (few : ∀ q ∈ qs, q.aborts ≤ 3) :
    ∀ q ∈ (abortFirst qs).1, q.aborts ≤ 3 := by
  cases qs with
  | nil => exact few
  | cons q rest =>
    obtain ⟨-, others⟩ := List.forall_mem_cons.mp few
    by_cases fourth : 3 ≤ q.aborts
    · simpa [abortFirst, Queued.aborted_fourth fourth] using others
    · simpa [abortFirst, Queued.aborted_below (not_le.mp fourth)] using ⟨by omega, others⟩

/-- The post that takes the abort is no longer in transmission (R133). -/
theorem abortPost_queueKept (k : PostKind) {s : State} (stopped : s.line.sending = none) :
    QueueKept s (s.abortPost k).1 := by
  intro sound
  obtain ⟨⟨four, two, alerts, state, replies⟩, -, quiet⟩ := (LineController.sound_iff _).mp sound
  obtain ⟨-, fewer⟩ := abortPost_fits k four
  have idle (l : LineController) (h : l.sending = s.line.sending) : ∀ k ∈ l.sending, l.Waits k := by simp [h, stopped]
  cases k with
  | alert =>
    exact (LineController.sound_iff _).mpr
      ⟨⟨fewer.trans four, two, abortFirst_aborts alerts, state, replies⟩, idle _ rfl, quiet⟩
  | reply =>
    exact (LineController.sound_iff _).mpr
      ⟨⟨fewer.trans four, (abortFirst_length _).trans two, alerts, state, abortFirst_aborts replies⟩, idle _ rfl, quiet⟩
  | state =>
    cases own : s.line.state with
    | none => simpa [abortPost, own] using sound
    | some q =>
      by_cases fourth : 3 ≤ q.aborts
      · have removed : (s.abortPost .state).1 = s.removeState := by simp [abortPost, own, Queued.aborted_fourth fourth]
        have left : { s.line with state := none }.Sound := sound.withoutState (by simp [stopped])
        rw [removed]
        exact releaseHeld_queueKept _ left
      · have kept : (s.abortPost .state).1 =
            (s.withLine { s.line with state := some { q with aborts := q.aborts + 1 } }).settleRetry := by
          simp [abortPost, own, Queued.aborted_below (not_le.mp fourth)]
        rw [kept]
        exact settleRetry_queueKept _
          (sound.putState (q := { q with aborts := q.aborts + 1 }) (.inl (by simp [own])) (by simp only; omega))

theorem echoMismatch_queueKept (k : PostKind) (read : List Bool) (s : State) :
    QueueKept s (s.echoMismatch k read).1 := by
  rw [echoMismatch_eq]
  exact (stopSending_queueKept read s).trans ((abortPost_queueKept k (s := s.echoed read) rfl).after rfl)

theorem echoAbort_queueKept (k : PostKind) (read : List Bool) (s : State) : QueueKept s (s.echoAbort k read) := by
  simp only [echoAbort]
  split
  exacts [(echoMismatch_queueKept k read s).trans (raise_queueKept _ _), echoMismatch_queueKept k read s]

/-- A stuck line is offered nothing (R138). -/
theorem lineStuck_queueKept (heard : List Bool) (s : State) : QueueKept s (s.lineStuck heard) := by
  have found : QueueKept s s.foundStuck := by
    intro sound
    obtain ⟨stocked, sent, -⟩ := (LineController.sound_iff _).mp sound
    exact (LineController.sound_iff _).mpr ⟨stocked.of_fewer (.refl _) (.inl rfl) (.refl _), sent, fun _ => rfl⟩
  have aborted (u : State) : QueueKept u u.abortRunning.1 := by
    simp only [abortRunning]
    split
    exacts [.refl u, echoMismatch_queueKept _ _ u]
  have discarded (u : State) : QueueKept u (u.discardBuffer heard) := by
    intro sound
    rw [discardBuffer_line]
    exact sound
  have station (u : State) : QueueKept u u.stuckStation := by
    by_cases shelf : u.station.state = .shelf
    · rw [stuckStation_shelf shelf]
      exact failFinal_queueKept u
    · exact .of_line (stuckStation_line shelf)
  have taken : QueueKept s (s.stuckTaken heard) :=
    (((found.trans (aborted _)).trans (discarded _)).trans (logKind_queueKept .lineStuck _)).trans (station _)
  rw [lineStuck_eq]
  split
  exacts [taken.trans (logKind_queueKept _ _), taken]

/-! ### Every command -/

theorem exec_queueKept {c : Instr} {s t : State} (h : exec c s = .next t) : QueueKept s t := by
  cases c
  case powerOnReset | warmReset => cases h; exact .of_reset rfl
  case resetNRise => cases h; split; exacts [.refl s, .of_line rfl]
  case strapsComplete => cases h; split; exacts [endStraps_queueKept _ _ _ _ _ s, .refl s]
  case profileComplete => cases h; split; exacts [endProfile_queueKept _ _ s, .refl s]
  case cellCheckComplete => cases h; split; exacts [endCellCheck_queueKept _ _ s, .refl s]
  case listenEnd => cases h; split; exacts [endListen_queueKept s, .refl s]
  case ownRoundExpiry => cases h; split; exacts [.refl s, (ownRound_queueKept _).after (advance_line _ _)]
  case sweepComplete => cases h; split; exacts [completeSweep_queueKept _ s, .refl s]
  case foldEdge =>
    cases h; split
    · exact .of_line rfl
    · split
      exacts [.of_reset rfl, .of_line (by simp)]
  case foldWindowExpiry => cases h; split; exacts [.refl s, .of_line (by simp)]
  case stateArrival source post vIn =>
    cases h; split
    · exact .refl s
    · split
      · exact takeClash_queueKept s
      · split
        exacts [endReception_queueKept s,
          ((endReception_queueKept s).trans (takeArrival_queueKept _ _ _)).trans (settleShelf_queueKept _ _)]
  case limit post vIn =>
    cases h; split
    · exact .refl s
    · split
      exacts [(endReception_queueKept s).trans (takeLimit_queueKept _ _ _), endReception_queueKept s]
  case shelfOrder => cases h; exact shelfOrder_queueKept _ s
  case release => cases h; exact releaseOrder_queueKept s
  case readFirst target argument => cases h; exact takeQuery_queueKept _ (item_line 1 argument) s
  case readNext target argument => cases h; exact takeQuery_queueKept _ (item_line 2 argument) s
  case clearLog target argument => cases h; exact takeQuery_queueKept _ (item_line 5 argument) s
  case badItem => cases h; exact takeQuery_queueKept _ (item_line _ _) s
  case readCounters | readFlags | clearCounters | ackPin | readProfile | readStart =>
    cases h; exact takeQuery_queueKept _ (fun _ => rfl) s
  case addressClash => cases h; split; exacts [takeClash_queueKept s, .refl s]
  case invalidPost =>
    cases h; split; exacts [(endReception_queueKept s).trans (.of_line (countIf_line _ _ _)), .refl s]
  case discardedPost => cases h; split; exacts [endReception_queueKept s, .refl s]
  case lineIdle => cases h; split; exacts [lineIdle_queueKept s, .refl s]
  case ownStateSent =>
    cases h; split; exacts [(ownStateSent_queueKept _ s).trans (settleShelf_queueKept _ _), .refl s]
  case alertSent => cases h; split; exacts [alertSent_queueKept s, .refl s]
  case replySent => cases h; split; exacts [replySent_queueKept s, .refl s]
  case lostArbitration read =>
    cases h; split
    case h_1 => exact .refl s
    case h_2 => exact (stopSending_queueKept read s).trans (settleRetry_queueKept _)
    all_goals exact stopSending_queueKept read s
  case echoAbort => cases h; split; exacts [.refl s, (echoAbort_queueKept _ _ s).trans (settleShelf_queueKept _ _)]
  case lineStuck => cases h; split; exacts [(lineStuck_queueKept _ s).trans (settleShelf_queueKept _ _), .refl s]
  case shelfWaitExpiry =>
    cases h; split
    · exact .refl s
    · split
      exacts [((failFinal_queueKept _).after (advance_line _ s)).trans (settleShelf_queueKept _ _), .refl s]
  case wakeEvent => cases h; split; exacts [.of_reset rfl, .refl s]
  case probeStepEnd | probeComparatorTrip | wakeWaitingForHigh => cases h; split; exacts [.of_line rfl, .refl s]
  case thresholdLowering => cases h; split; exacts [.refl s, .of_line rfl]
  case undervoltageTrip => cases h; split; exacts [.of_line (by simp), .refl s]
  case inputOvervolt =>
    have overvolt : QueueKept s s.inputOvervolt := (raise_queueKept _ _).after (by simp)
    cases h; split; exacts [overvolt.trans (settleShelf_queueKept _ _), .refl s]
  case hingeTrip => cases h; split; exacts [(hingeTrip_queueKept s).trans (settleShelf_queueKept _ _), .refl s]
  case cellOvervolt vCell iCell _ | cellOvercurrent vCell iCell _ =>
    have tripped : QueueKept s (s.tripCell vCell iCell) := (raiseAll_queueKept _ _).after rfl
    cases h; split; exacts [tripped.trans (settleShelf_queueKept _ _), .refl s]
  case comparatorNoLongerAsserted => cases h; exact .of_line rfl

theorem tick_queueKept (s : State) : QueueKept s s.tick := by
  have edge : QueueKept s s.otherEdge := by
    rw [otherEdge_eq]
    exact id
  have filled (u : State) (cs : List Instr) : QueueKept u (u.withPending cs) := .of_line rfl
  simp only [tick]
  refine edge.trans (QueueKept.trans ?_ (filled _ _))
  split
  exacts [.of_line (advance_line 1 _), .refl _]

theorem step_queueKept {s t : State} (h : step s = .next t) : QueueKept s t := by
  simp only [step] at h
  split at h
  · cases h; exact tick_queueKept s
  · exact (exec_queueKept h).after rfl

end Sys2Proof.Machine.State

open Sys2Proof Sys2Proof.Machine

/-- Settles O55: a post joins only where there is room or another gives way, and one leaves only with its transmission over. -/
theorem stepKeepsQueue : Obligations.StepKeepsQueue :=
  fun _ _ sound h => State.step_queueKept h sound
end

section
/-!
SUPPORT. LINE_IDLE: what begins, and what waits (R130, R138).
-/

namespace Sys2Proof.Machine.State

/-- Whether the controller offers once the line is idle (R138). -/
def offersIdle (s : State) : Bool :=
  if s.line.stuck then s.mayOffer else s.line.offering

theorem lineIdle_begins {s : State} (offers : s.offersIdle = true) (free : s.line.sending = none) (posts : s.line.waiting ≠ 0) :
    s.lineIdle = { s with line := { s.line with
      stuck := false, offering := s.offersIdle, idleUs := 0, lowUs := 0, sending := s.line.head } } := by
  have begins : (s.offersIdle && decide (s.line.sending = none) && s.line.head.isSome) = true := by
    simp [offers, free, LineController.head_isSome, posts]
  simp only [offersIdle] at begins ⊢
  simp only [lineIdle, begins, if_true]
  rfl

theorem lineIdle_waits {s : State} (h : ¬(s.offersIdle = true ∧ s.line.sending = none ∧ s.line.waiting ≠ 0)) :
    s.lineIdle = { s with line := { s.line with stuck := false, offering := s.offersIdle, idleUs := 240, lowUs := 0 } } := by
  have still : (s.offersIdle && decide (s.line.sending = none) && s.line.head.isSome) = false := by
    rw [← Bool.not_eq_true]
    simpa [LineController.head_isSome, and_assoc] using h
  simp only [offersIdle] at still ⊢
  simp only [lineIdle, still]
  rfl

end Sys2Proof.Machine.State

open Sys2Proof Sys2Proof.Machine

/-- Settles O34: the oldest of a kind is the first of its list. -/
theorem alertAndReplySent : Obligations.AlertAndReplySent := fun s =>
  ⟨fun sending => congrArg Host.Outcome.next (by rw [if_pos sending, List.drop_one]; rfl),
    fun sending => congrArg Host.Outcome.next (by rw [if_pos sending, List.drop_one]; rfl)⟩

/-- Settles O31: what begins is the head of a queue that is not empty. -/
theorem lineIdleOffers : Obligations.LineIdleOffers := by
  intro s on l offering begins
  have offers : s.offersIdle = offering := by simp [State.offersIdle, State.mayOffer, on, offering, l]
  refine ⟨s.lineIdle, congrArg Host.Outcome.next (if_pos on), by rw [← offers]; rfl, fun ⟨offered, free, posts⟩ => ?_,
    fun still => ?_⟩
  · rw [State.lineIdle_begins (offers.trans offered) free posts]
    exact ⟨rfl, LineController.head_eq posts⟩
  · rw [State.lineIdle_waits (by rwa [offers])]
    exact ⟨rfl, rfl⟩
end

section
/-!
SUPPORT. Posts sent bit by bit and heard again (R130, R131, R135, R136, R143, R145).
-/

namespace Sys2Proof

/-! ### Bits and bytes -/

theorem byteOfBits_bits (b : Byte) :
    byteOfBits (b.getLsbD 7) (b.getLsbD 6) (b.getLsbD 5) (b.getLsbD 4) (b.getLsbD 3) (b.getLsbD 2) (b.getLsbD 1)
      (b.getLsbD 0) = b := by
  decide +revert

theorem bytesOfBits_bitsOfBytes (bs : List Byte) : bytesOfBits (bitsOfBytes bs) = bs := by
  induction bs with
  | nil => rfl
  | cons b bs ih => exact congrArg₂ List.cons (byteOfBits_bits b) ih

theorem length_bitsOfBytes (bs : List Byte) : (bitsOfBytes bs).length = 8 * bs.length := by
  induction bs with
  | nil => rfl
  | cons b bs ih =>
    have byte : (bitsOfBytes (b :: bs)).length = 8 + (bitsOfBytes bs).length := List.length_append
    rw [byte, ih, List.length_cons]
    omega

/-! ### Fields -/

theorem halfOfBytes_bytesOfHalf (h : Half) : halfOfBytes (h.extractLsb' 8 8) (h.extractLsb' 0 8) = h :=
  (BitVec.extractLsb'_append_extractLsb'_eq_extractLsb' rfl : _ = h.extractLsb' 0 16).trans BitVec.extractLsb'_eq_self

theorem marksOfByte_marksByte (m : Marks) : marksOfByte (marksByte m) = m := by
  obtain ⟨s, l, q, cmax, dmax, h⟩ := m
  decide +revert

/-- Byte 3 of a STATE post (R143). -/
theorem nibbles_append (hi lo : BitVec 4) :
    (hi ++ lo : Byte).extractLsb' 4 4 = hi ∧ (hi ++ lo : Byte).extractLsb' 0 4 = lo :=
  ⟨BitVec.extractLsb'_append_eq_left, BitVec.extractLsb'_append_eq_right⟩

/-- Byte 4 of a STATE post (R143). -/
theorem postureFields_append (fold link : BitVec 2) (balance : Bool) (outcome : BitVec 3) :
    let b : Byte := fold ++ link ++ BitVec.ofBool balance ++ outcome
    b.extractLsb' 6 2 = fold ∧ b.extractLsb' 4 2 = link ∧ b.getLsbD 3 = balance ∧ b.extractLsb' 0 3 = outcome := by
  decide +revert

theorem decodeLimit_encodeLimit (p : LimitPost) : decodeLimit (encodeLimit p) = p := by
  simp [decodeLimit, encodeLimit, withCrc, bytesOfHalf, halfAt, halfOfBytes_bytesOfHalf]

theorem decodeState_encodeState (source : BitVec 3) (p : StatePost) : decodeState (encodeState source p) = p := by
  obtain ⟨phase, port⟩ := nibbles_append p.phase p.port
  obtain ⟨fold, link, balance, outcome⟩ := postureFields_append p.fold p.link p.balance p.outcome
  simp only [decodeState, encodeState, withCrc, bytesOfHalf, halfAt, List.cons_append, List.nil_append, List.getD_cons_succ,
    List.getD_cons_zero, phase, port, fold, link, balance, outcome, marksOfByte_marksByte, halfOfBytes_bytesOfHalf]

/-! ### Posts heard -/

/-- A header of R131 with the length of its kind and the CRC of R136 makes a valid post (R135). -/
theorem validPost_withCrc {h : Byte} {body : List Byte} (clear : h.extractLsb' 0 2 = 0#2)
    (length : kindLength (headerKind h) = some (body.length + 2)) :
    validPost (bitsOfBytes (withCrc (h :: body))) = some (withCrc (h :: body)) := by
  have whole : (bitsOfBytes (withCrc (h :: body))).length = 8 * (withCrc (h :: body)).length := length_bitsOfBytes _
  have bytes : kindLength (headerKind h) = some (withCrc (h :: body)).length := by simp [length, withCrc]
  have checked : crc (withCrc (h :: body)).dropLast = (withCrc (h :: body)).getLastD 0 := by
    rw [withCrc, List.dropLast_concat, List.getLastD_concat]
  simp only [validPost, bytesOfBits_bitsOfBytes]
  exact if_pos ⟨whole, clear, bytes, checked⟩

/-- Every header holds its kind and its source, with its low bits clear (R131). -/
theorem header_fields {kind : Nat} (small : kind < 8) (source : BitVec 3) :
    (header kind source.toNat).extractLsb' 0 2 = 0#2 ∧ headerKind (header kind source.toNat) = kind ∧
      headerSource (header kind source.toNat) = source := by
  interval_cases kind <;> decide +revert

theorem commandOf_limit {own : BitVec 3} (other : own ≠ 7) (vIn : Nat) (p : LimitPost) :
    commandOf own vIn (bitsOfBytes (encodeLimit p)) = .limit p vIn := by
  obtain ⟨clear, kind, sender⟩ := header_fields (kind := 1) (by decide) 7
  have valid : validPost (bitsOfBytes (encodeLimit p)) = some (encodeLimit p) :=
    validPost_withCrc clear (congrArg kindLength kind)
  have head : (encodeLimit p).getD 0 0 = header 1 (7 : BitVec 3).toNat := rfl
  simp only [commandOf, valid, head, sender, kind, other.symm, if_false, if_true, decodeLimit_encodeLimit]

theorem commandOf_query {own : BitVec 3} (other : own ≠ 7) (vIn : Nat) (target item argument : Byte) :
    commandOf own vIn (bitsOfBytes (encodeQuery target item argument)) = queryCommand target item argument := by
  obtain ⟨clear, kind, sender⟩ := header_fields (kind := 3) (by decide) 7
  have valid : validPost (bitsOfBytes (encodeQuery target item argument)) = some (encodeQuery target item argument) :=
    validPost_withCrc clear (congrArg kindLength kind)
  have head : (encodeQuery target item argument).getD 0 0 = header 3 (7 : BitVec 3).toNat := rfl
  simp only [commandOf, valid, head, sender, kind, other.symm, if_false, if_true]
  rfl

theorem commandOf_state {own source : BitVec 3} (foreign : source ≠ own) (station : source ≠ 7) (vIn : Nat) (p : StatePost) :
    commandOf own vIn (bitsOfBytes (encodeState source p)) = .stateArrival source p vIn := by
  obtain ⟨clear, kind, sender⟩ := header_fields (kind := 2) (by decide) source
  have valid : validPost (bitsOfBytes (encodeState source p)) = some (encodeState source p) :=
    validPost_withCrc clear (congrArg kindLength kind)
  have head : (encodeState source p).getD 0 0 = header 2 source.toNat := rfl
  simp only [commandOf, valid, head, sender, kind, foreign, station, if_false, decodeState_encodeState]

end Sys2Proof

open Sys2Proof

/-- Settles O53: the bytes come back from their bits and the fields from their bytes, and header, length and CRC make the post
valid. -/
theorem postsRoundTrip : Obligations.PostsRoundTrip := fun _ _ vIn p q target item argument =>
  ⟨fun other => ⟨commandOf_limit other vIn p, commandOf_query other vIn target item argument⟩,
    fun foreign station => commandOf_state foreign station vIn q⟩
end

section
/-!
SUPPORT. Resets, exit from SHELF, and the stages of the start from STRAPS to CELL_CHECK (R99, R147, R148, R149, R160).
-/

namespace Sys2Proof.Machine

/-! ### Straps -/

theorem strapsInvalid_iff (s0 s1 s2 : Fin 16) :
    strapsInvalid s0 s1 s2 = true ↔ 14 ≤ s0.val ∨ 9 ≤ s1.val ∨ s2.val % 4 = 3 := by
  have top : s0.val / 2 = 7 ↔ 14 ≤ s0.val := by omega
  simp [strapsInvalid, top, or_assoc]

section
variable (s0 s1 s2 s3 : Fin 16)

/-- Address 7 is the policy station's, and falls back to 6 (R147). -/
theorem decodeStraps_address :
    (decodeStraps s0 s1 s2 s3).address.toNat = if 14 ≤ s0.val then 6 else s0.val / 2 := by
  simp only [decodeStraps, BitVec.toNat_ofNat]
  split <;> omega

theorem decodeStraps_hingeClass : (decodeStraps s0 s1 s2 s3).hingeClass = 4000 + 2000 * (s2.val / 4) := by
  fin_cases s2 <;> rfl

theorem decodeStraps_period : (decodeStraps s0 s1 s2 s3).period =
    if s2.val % 4 = 0 then 100 else if s2.val % 4 = 2 then 400 else 200 := by
  simp only [decodeStraps]
  split <;> simp_all

end

/-- The window of CELL_CHECK, in the bounds of the profile's row (R21, R149). -/
theorem cellCheckPasses_iff (p : Profile) (vCell : Nat) (tCell : Int) : cellCheckPasses p vCell tCell = true ↔
    p.cutoffMv ≤ vCell + 200 ∧ vCell ≤ p.chargeMv + 100 ∧ -40 ≤ tCell ∧ tCell ≤ 120 := by
  have deep : p.deepMv ≤ vCell ↔ p.cutoffMv ≤ vCell + 200 := by unfold Profile.deepMv; omega
  simp only [cellCheckPasses, Bool.and_eq_true, decide_eq_true_eq, deep, and_assoc]
  rfl

/-- The port keeps all but its state, and that too with an input fitted (R99). -/
theorem InputPort.settle_eq (fitted : Bool) (p : InputPort) :
    p.settle fitted = { p with port := if fitted then p.port else .absent } := by
  cases fitted <;> rfl

namespace State

/-- The state at the end of STRAPS, before an invalid field is reported (R15, R99, R147). -/
def strapsTaken (s0 s1 s2 s3 : Fin 16) (foldHigh : Bool) (s : State) : State :=
  let straps := decodeStraps s0 s1 s2 s3
  { s with
    start := { s.start with
      straps := straps
      record := { s.start.record with
        stage := 2, strapsResult := if strapsInvalid s0 s1 s2 then .fallback else .ok, levels := [s0, s1, s2, s3] } }
    port := s.port.settle straps.inputFitted
    round := { s.round with fold := if straps.foldFitted then (if foldHigh then .opened else .closed) else .none }
    pins := { s.pins with foldHigh := foldHigh } }

/-- The end of STRAPS reports at most an invalid field (R147). -/
theorem endStraps_eq (s0 s1 s2 s3 : Fin 16) (foldHigh : Bool) (s : State) : s.endStraps s0 s1 s2 s3 foldHigh =
    if strapsInvalid s0 s1 s2 then (s.strapsTaken s0 s1 s2 s3 foldHigh).logKind .strapInvalid
    else s.strapsTaken s0 s1 s2 s3 foldHigh := by
  rw [← raise_degraded .strapInvalid _ rfl]
  rfl

/-- The report writes log and line alone (R167, R169). -/
theorem endStraps_blocks (s0 s1 s2 s3 : Fin 16) (foldHigh : Bool) (s : State) :
    let t := s.endStraps s0 s1 s2 s3 foldHigh
    t = { s.strapsTaken s0 s1 s2 s3 foldHigh with fault := t.fault, line := t.line } := by
  rw [endStraps_eq]
  split
  exacts [logKind_eq _ _, rfl]

theorem exec_strapsComplete {s : State} (s0 s1 s2 s3 : Fin 16) (foldHigh : Bool) (h : s.atStage 1 = true) :
    exec (.strapsComplete s0 s1 s2 s3 foldHigh) s = .next (s.endStraps s0 s1 s2 s3 foldHigh) := by
  simp [exec, execStrapsComplete, h]

/-! ### CELL_CHECK -/

/-- The state at the end of CELL_CHECK with its result, before a failure acts: LISTEN has begun (R149, R150). -/
def cellChecked (result : StageResult) (vCell : Nat) (tCell : Int) (s : State) : State :=
  s.withStart { s.start with
    record := { s.start.record with stage := 4, cellCheckResult := result }
    cellCheck := some (vCell, tCell)
    listenLeft := some (2 * s.start.straps.period) }

theorem endCellCheck_passes {vCell : Nat} {tCell : Int} {s : State} (h : cellCheckPasses s.profile vCell tCell = true) :
    s.endCellCheck vCell tCell = s.cellChecked .ok vCell tCell := by
  simp only [endCellCheck, cellChecked, h, if_true]

theorem endCellCheck_fails {vCell : Nat} {tCell : Int} {s : State} (h : cellCheckPasses s.profile vCell tCell ≠ true) :
    s.endCellCheck vCell tCell = (s.cellChecked .failed vCell tCell).raise .startCell := by
  simp only [endCellCheck, cellChecked, if_neg h]

/-- In START a HALTING kind is logged, opens the discharge switch and leaves a latch pending (R171). -/
theorem raise_starting {k : Kind} {s : State} (halting : k.severity = .halting) (start : s.station.state = .start) :
    s.raise k = { s with
      line := (s.logKind k).line
      station := { s.station with latchPending := true }
      fault := { (s.logKind k).fault with dischargeClosed := false } } := by
  have still : (s.logKind k).station.state = .start := by rw [logKind_station, start]
  rw [raise_halting k s halting, haltingEffect, still]
  simp only
  rw [logKind_eq]
  rfl

theorem exec_cellCheckComplete {s : State} (vCell : Nat) (tCell : Int) (h : s.atStage 3 = true) :
    exec (.cellCheckComplete vCell tCell) s = .next (s.endCellCheck vCell tCell) := by
  simp [exec, execCellCheckComplete, h]

/-! ### Exit from SHELF -/

/-- A wake event takes the exit from SHELF, with at most the level of FOLD moved (R111, R160). -/
theorem exec_wakes {c : Instr} {s : State} (off : s.station.off = true)
    (event : (∃ v, c = .wakeEvent (.input v) ∧ 4300 ≤ v ∧ s.port.wake = .waitingForHigh) ∨
      (∃ b, (c = .wakeEvent (.fold b) ∨ c = .foldEdge b) ∧ s.start.straps.foldFitted = true)) :
    ∃ p, exec c s = .next (s.withPins p).wake ∧ p.resetNHigh = s.pins.resetNHigh := by
  rcases event with ⟨v, rfl, high, waits⟩ | ⟨b, rfl | rfl, fitted⟩
  · exact ⟨s.pins, by simp [exec, execWakeEvent, wakes, wakePins, off, high, waits], rfl⟩
  · exact ⟨{ s.pins with foldHigh := b }, by simp [exec, execWakeEvent, wakes, wakePins, off, fitted], rfl⟩
  · exact ⟨{ s.pins with foldHigh := b }, by simp [exec, execFoldEdge, off, fitted], rfl⟩

end State
end Sys2Proof.Machine

open Sys2Proof Sys2Proof.Machine

/-- Settles O5: each reset writes its values out, and RESET_N decides whether its rise begins a start. -/
theorem resets : Obligations.Resets := fun s =>
  ⟨rfl, rfl, fun low => by simp [exec, execResetNRise, low, State.withPins, State.withStart, StartRecord.cleared],
    fun high => by simp [exec, execResetNRise, high]⟩

/-- Settles O6: whichever source wakes the part, what follows is `State.warmValues`. -/
theorem shelfExit : Obligations.ShelfExit := by
  intro c s off event
  obtain ⟨p, next, level⟩ := State.exec_wakes off event
  refine ⟨_, next, ?_⟩
  and_intros
  on_goal -1 => exact level
  all_goals rfl

/-- Settles O7: the straps are the decoder's, and past them only an invalid field is reported. -/
theorem strapsComplete : Obligations.StrapsComplete := by
  intro s0 s1 s2 s3 foldHigh s start stage high invalid
  have next := State.exec_strapsComplete s0 s1 s2 s3 foldHigh ((State.atStage_iff 1 s).mpr ⟨start, stage, high⟩)
  have blocks := s.endStraps_blocks s0 s1 s2 s3 foldHigh
  have reports (h : invalid) : (s.endStraps s0 s1 s2 s3 foldHigh).fault.Holds .strapInvalid := by
    rw [State.endStraps_eq, if_pos ((strapsInvalid_iff s0 s1 s2).mpr h)]
    exact (State.logKind_holds _ _ _).mpr (.inr rfl)
  have silent (h : ¬invalid) : s.endStraps s0 s1 s2 s3 foldHigh = s.strapsTaken s0 s1 s2 s3 foldHigh := by
    rw [State.endStraps_eq, if_neg (mt (strapsInvalid_iff s0 s1 s2).mp h)]
  generalize s.endStraps s0 s1 s2 s3 foldHigh = t at *
  have taken : t.start = (s.strapsTaken s0 s1 s2 s3 foldHigh).start := by rw [blocks]
  have straps : t.start.straps = decodeStraps s0 s1 s2 s3 := by rw [taken]; rfl
  have result : t.start.record.strapsResult = if strapsInvalid s0 s1 s2 then .fallback else .ok := by rw [taken]; rfl
  have port : t.port = s.port.settle (decodeStraps s0 s1 s2 s3).inputFitted := by rw [blocks]; rfl
  refine ⟨t, next, ?_, ?_, ?_, ?_, ?_, ?_, ?_, ?_, fun h => ⟨?_, reports h⟩, fun h => ⟨?_, ?_, ?_⟩, ?_, ?_, ?_⟩
  · rw [straps, decodeStraps_address]
  · simp [straps, decodeStraps]
  · rw [straps]; rfl
  · rw [straps, decodeStraps_hingeClass]
  · rw [straps, decodeStraps_period]
  · simp [straps, decodeStraps]
  · simp [straps, decodeStraps]
  · rw [taken]; rfl
  · rw [result, if_pos ((strapsInvalid_iff s0 s1 s2).mpr h)]
  · rw [result, if_neg (mt (strapsInvalid_iff s0 s1 s2).mp h)]
  · rw [silent h]; rfl
  · rw [silent h]; rfl
  · rw [port, InputPort.settle_eq]
    simp [decodeStraps]
  · rw [blocks]
    simp [State.strapsTaken, decodeStraps]
  · rw [blocks]
    rfl

/-- Settles O9: a reading outside its window is a HALTING kind in START. -/
theorem cellCheckComplete : Obligations.CellCheckComplete := by
  intro vCell tCell s start stage high passes
  have window : cellCheckPasses s.profile vCell tCell = true ↔ passes := cellCheckPasses_iff _ _ _
  refine ⟨_, State.exec_cellCheckComplete vCell tCell ((State.atStage_iff 3 s).mpr ⟨start, stage, high⟩), ?_⟩
  by_cases h : passes
  · rw [State.endCellCheck_passes (window.mpr h)]
    exact ⟨rfl, fun _ => ⟨rfl, rfl⟩, fun fails => absurd h fails⟩
  · rw [State.endCellCheck_fails (mt window.mp h), State.raise_starting rfl (by exact start)]
    have logged : ((s.cellChecked .failed vCell tCell).logKind .startCell).fault.Holds .startCell :=
      (State.logKind_holds _ _ _).mpr (.inr rfl)
    exact ⟨rfl, fun holds => absurd holds h, fun _ => ⟨rfl, logged, rfl, rfl, rfl⟩⟩
end

section
/-!
SUPPORT. The order of a LIMIT, once the rest of the post is stored (R176, R178).
-/

namespace Sys2Proof.Machine.State

/-- An addressed LIMIT is stored, and then its order is routed (R176). -/
theorem exec_limit_routed {p : LimitPost} {s : State} (vIn : Nat) (on : s.receiving = true)
    (target : p.target.toNat = s.start.straps.address.toNat ∨ p.target = 7) :
    exec (.limit p vIn) s = .next
      ((s.limitStored (contractStored p.contract) (ceilingStored p.ceiling) (balanceStored p.balance)).routeOrder
        (orderStored p.order) vIn) := by
  simp only [exec, execLimit, on, addressed_of target, takeLimit, limitStored, Bool.not_true, Bool.false_eq_true, if_false,
    if_true]

theorem addressed_not {own : BitVec 3} {target : Byte} (h : target.toNat ≠ own.toNat) (h' : target ≠ 7) :
    addressed own target = false := by
  have policy : target.toNat ≠ 7 := fun e => h' (BitVec.eq_of_toNat_eq e)
  simp [addressed, h, policy]

end Sys2Proof.Machine.State

open Sys2Proof Sys2Proof.Machine

/-- Settles O23: what the order finds is what the LIMIT without it leaves. -/
theorem limitRoutesOrder : Obligations.LimitRoutesOrder := by
  refine fun p vIn s => ⟨fun on target => ⟨_, State.exec_limit_none vIn on target nofun nofun, ?_⟩,
    fun on other notAll => ?_, fun notSolo notPaired => ?_⟩
  · have routed := State.exec_limit_routed vIn on target
    refine ⟨fun shelf => ?_, fun release => ?_, fun notShelf notRelease => ?_⟩
    · rw [routed, shelf]; rfl
    · rw [routed, release]; rfl
    · exact State.exec_limit_none vIn on target notShelf notRelease
  · simp only [exec, execLimit, on, State.addressed_not other notAll, Bool.not_true, Bool.false_eq_true, if_false]
    rfl
  · simp [exec, execShelfOrder, State.shelfOrder, State.serving, notSolo, notPaired]
end

section
/-!
SUPPORT. READY: the station state entered, the first sweep and the offer, and the partner judged from SOLO (R150, R151).
-/

namespace Sys2Proof.Machine.State

/-! ### Sweep requests and the partner judgement -/

/-- A request leaves a sweep in flight as it is (R3). -/
theorem requestSweep_stays {s : State} (flight : s.round.inFlight = true) : s.requestSweep.round.inFlight = true := by
  rcases s.requestSweep_cases with ⟨-, e⟩ | ⟨-, -, -, e⟩ | ⟨-, -, -, e⟩ <;> rw [e]
  exacts [flight, flight]

theorem judgePartner_stays {s : State} (flight : s.round.inFlight = true) : s.judgePartner.round.inFlight = true := by
  rcases s.judgePartner_cases with e | e | e <;> rw [e]
  · simpa using flight
  · exact requestSweep_stays (by simpa using flight)
  · exact requestSweep_stays (by simpa using flight)

/-- The partner judgement moves the station state and the crowd mark alone (R155, R157). -/
theorem judgePartner_station (s : State) : s.judgePartner.station = { s.station with
    state := s.judgePartner.station.state, crowd := s.judgePartner.station.crowd } := by
  rcases s.judgePartner_cases with e | e | e <;> rw [e] <;> simp [become, judgeCrowd_station]

theorem judgePartner_offering (s : State) : s.judgePartner.line.offering = s.line.offering := by
  have crowd : s.judgeCrowd.line.offering = s.line.offering := congrArg Posture.offering (judgeCrowd_posture s)
  rcases s.judgePartner_cases with e | e | e <;> rw [e] <;> simpa using crowd

/-- From SOLO the judgement leads to PAIRED exactly with a partner and without stuck hold (R155, R157). -/
theorem judgePartner_solo_state {s : State} (solo : s.station.state = .solo) : s.judgePartner.station.state =
    if s.partner.isSome && !s.station.stuckHold then .paired else .solo := by
  rw [judgePartner_solo solo]
  split
  · simp [become]
  · rw [judgeCrowd_station, solo]

/-! ### The station state entered -/

/-- Entry into LATCHED moves round timer and sweep marks alone of the round unit (R3, R171). -/
theorem enterLatched_round (s : State) : s.enterLatched.round = { s.round with
    timer := s.enterLatched.round.timer, inFlight := s.enterLatched.round.inFlight
    earlyRequest := s.enterLatched.round.earlyRequest } := by
  simp only [enterLatched]
  rw [requestSweep_round, requestSweepIf_round]
  simp

theorem enterLatched_apply (s : State) : s.enterLatched.apply = { s.apply with
    charge := 0, link := 0, chargeMa := s.enterLatched.apply.chargeMa, linkMa := s.enterLatched.apply.linkMa } := by
  simp only [enterLatched, requestSweep_apply, requestSweepIf_apply, become_apply, withPort_apply, withCharger_apply]
  rw [setLink_apply, setCharge_apply]
  rfl

/-- The station with both pending marks cleared (R151). -/
def unpended (s : State) : State :=
  s.withStation { s.station with latchPending := false, mutePending := false }

/-- Mute comes before latch, and latch before SOLO (R151). -/
theorem enterReady_cases (s : State) :
    (s.station.mutePending = true ∧ s.enterReady = s.unpended.enterMute) ∨
    (s.station.mutePending = false ∧ s.station.latchPending = true ∧ s.enterReady = s.unpended.enterLatched) ∨
    (s.station.mutePending = false ∧ s.station.latchPending = false ∧ s.enterReady = s.unpended.become .solo) := by
  cases mute : s.station.mutePending
  · cases latch : s.station.latchPending
    · exact .inr (.inr ⟨rfl, rfl, by simp [enterReady, mute, latch, unpended]⟩)
    · exact .inr (.inl ⟨rfl, rfl, by simp [enterReady, mute, latch, unpended]⟩)
  · exact .inl ⟨rfl, by simp [enterReady, mute, unpended]⟩

/-- The station state entered at READY before the partner is judged (R151). -/
def readyState (s : State) : StationState :=
  if s.station.mutePending then .mute else if s.station.latchPending then .latched else .solo

theorem readyState_solo_iff (s : State) :
    s.readyState = .solo ↔ s.station.mutePending = false ∧ s.station.latchPending = false := by
  unfold readyState
  split_ifs <;> simp_all

theorem readyState_mute_iff (s : State) : s.readyState = .mute ↔ s.station.mutePending = true := by
  unfold readyState
  split_ifs <;> simp_all

/-- In every state entered a sweep may be requested (R3). -/
theorem readyState_sweeps (s : State) : s.readyState ≠ .start ∧ s.readyState ≠ .shelf := by
  unfold readyState
  split_ifs <;> simp

theorem enterReady_station (s : State) : s.enterReady.station =
    { s.station with state := s.readyState, latchPending := false, mutePending := false } := by
  rcases s.enterReady_cases with ⟨mute, e⟩ | ⟨mute, latch, e⟩ | ⟨mute, latch, e⟩ <;> rw [e]
  · rw [(enterMute_spec _).1, readyState, if_pos mute]; rfl
  · obtain ⟨-, -, -, station, -⟩ := enterLatched_spec s.unpended
    simp only [station, readyState, mute, latch]; rfl
  · simp only [readyState, mute, latch]; rfl

/-- What the entry leaves: the stamp, draw, posted values and proposal, and whether the line is stuck. -/
theorem enterReady_leaves (s : State) :
    s.enterReady.round.stamp = s.round.stamp ∧ s.enterReady.apply.draw = s.apply.draw ∧
      s.enterReady.apply.posted = s.apply.posted ∧ s.enterReady.apply.proposal = s.apply.proposal ∧
      s.enterReady.line.stuck = s.line.stuck := by
  rcases s.enterReady_cases with ⟨-, e⟩ | ⟨-, -, e⟩ | ⟨-, -, e⟩ <;> rw [e]
  · rw [enterMute_round, enterMute_apply, enterMute_line]
    exact ⟨rfl, rfl, rfl, rfl, rfl⟩
  · rw [enterLatched_round, enterLatched_apply, enterLatched_line]
    exact ⟨rfl, rfl, rfl, rfl, rfl⟩
  · exact ⟨rfl, rfl, rfl, rfl, rfl⟩

theorem enterReady_emptied {s : State} (mute : s.station.mutePending = true) : s.enterReady.line.waiting = 0 := by
  rcases s.enterReady_cases with ⟨-, e⟩ | ⟨no, -⟩ | ⟨no, -⟩
  · rw [e]
    exact (enterMute_spec _).2.2.1
  · simp [mute] at no
  · simp [mute] at no

theorem enterReady_latches {s : State} (mute : s.station.mutePending = false) (latch : s.station.latchPending = true) :
    s.enterReady.fault.dischargeClosed = false := by
  rcases s.enterReady_cases with ⟨yes, -⟩ | ⟨-, -, e⟩ | ⟨-, no, -⟩
  · simp [mute] at yes
  · rw [e]
    exact (enterLatched_spec _).1
  · simp [latch] at no

theorem enterReady_port {s : State} (latch : s.station.latchPending = false) : s.enterReady.port = s.port := by
  rcases s.enterReady_cases with ⟨-, e⟩ | ⟨-, yes, -⟩ | ⟨-, -, e⟩
  · rw [e, enterMute_port]
    rfl
  · simp [latch] at yes
  · rw [e]
    rfl

/-! ### The first sweep and the offer -/

/-- The station entered, with the round timer started and the first sweep requested (R151). -/
def readySwept (s : State) : State :=
  (s.enterReady.withRound { s.enterReady.round with timer := some s.enterReady.start.straps.period }).requestSweep

/-- And with the offer made, before the partner is judged (R151). -/
def readyOffered (s : State) : State :=
  s.readySwept.withLine { s.readySwept.line with offering := s.readySwept.mayOffer && !s.readySwept.line.stuck }

theorem ready_eq (s : State) :
    s.ready = if s.readyOffered.station.state = .solo then s.readyOffered.judgePartner else s.readyOffered := rfl

/-- Past the entry only the round's timer and sweep, the link stage's sweep and the offer have changed. -/
theorem readyOffered_eq (s : State) : s.readyOffered = { s.enterReady with
    round := { s.enterReady.round with
      timer := some s.start.straps.period, inFlight := true, earlyRequest := s.readyOffered.round.earlyRequest }
    hinge := s.readyOffered.hinge
    line := { s.enterReady.line with offering := s.readyOffered.line.offering } } := by
  let u := s.enterReady.withRound { s.enterReady.round with timer := some s.enterReady.start.straps.period }
  have timer : u.requestSweep.round.timer = some s.start.straps.period := by
    rcases u.requestSweep_timer with e | e <;> rw [e] <;> simp [u]
  have flight : u.requestSweep.round.inFlight = true := by
    obtain ⟨start, shelf⟩ := s.readyState_sweeps
    exact requestSweep_inFlight (by simpa [u, enterReady_station] using start)
      (by simpa [u, enterReady_station] using shelf)
  apply ext_blocks
  case round =>
    have swept := u.requestSweep_round
    rw [timer, flight] at swept
    exact swept
  case hinge => rfl
  all_goals simp [readyOffered, readySwept]

/-- The station offers unless it is MUTE or the line stuck (R151). -/
theorem readyOffered_offering {s : State} (on : s.receiving = true) :
    s.readyOffered.line.offering = (!s.line.stuck && !s.station.mutePending) := by
  have station : s.readySwept.station = s.enterReady.station := requestSweep_station _
  have start : s.readySwept.start = s.start := by simp [readySwept]
  have line : s.readySwept.line = s.enterReady.line := by simp [readySwept]
  obtain ⟨-, -, -, -, stuck⟩ := s.enterReady_leaves
  obtain ⟨awake, -⟩ := s.readyState_sweeps
  have may : s.readySwept.mayOffer = !s.station.mutePending := by
    have mute := s.readyState_mute_iff
    have receives : s.readySwept.receiving = true := by
      rw [← on, receiving, receiving, strapped, strapped, start, station, enterReady_station]
    rw [mayOffer, receives, station, enterReady_station]
    cases pending : s.station.mutePending <;> simp_all
  rw [readyOffered, withLine_line, may, line, stuck, Bool.and_comm]

/-! ### READY -/

theorem ready_station (s : State) :
    s.ready.station.state = (if s.station.mutePending then .mute else if s.station.latchPending then .latched
      else if s.partner.isSome && !s.station.stuckHold then .paired else .solo) ∧
    s.ready.station.latchPending = false ∧ s.ready.station.mutePending = false ∧
      s.ready.station.stuckHold = s.station.stuckHold := by
  have entered : s.readyOffered.station = s.enterReady.station := by rw [readyOffered_eq]
  have partner : s.readyOffered.partner = s.partner := by
    rw [readyOffered_eq]
    exact congrArg partnerOf (enterReady_peers s)
  rw [enterReady_station] at entered
  rw [ready_eq]
  split
  case isTrue solo =>
    obtain ⟨mute, latch⟩ := s.readyState_solo_iff.mp (by simpa [entered] using solo)
    rw [judgePartner_station, judgePartner_solo_state solo, partner]
    simp [entered, mute, latch]
  case isFalse other =>
    rw [entered]
    refine ⟨?_, rfl, rfl, rfl⟩
    have left (mute : ¬s.station.mutePending = true) (latch : ¬s.station.latchPending = true) : False :=
      other (by rw [entered]; exact s.readyState_solo_iff.mpr ⟨by simpa using mute, by simpa using latch⟩)
    simp only [readyState]
    split_ifs with mute latch
    exacts [rfl, rfl, (left mute latch).elim, (left mute latch).elim]

/-- The judgement of the partner from SOLO leaves what the first sweep and the offer have made. -/
theorem ready_leaves (s : State) :
    s.ready.round.timer = some s.start.straps.period ∧ s.ready.round.inFlight = true ∧
      s.ready.round.stamp = s.round.stamp ∧ s.ready.line.offering = s.readyOffered.line.offering ∧
      s.ready.port = s.enterReady.port ∧ s.ready.fault.dischargeClosed = s.enterReady.fault.dischargeClosed ∧
      s.ready.apply.draw = s.apply.draw ∧ s.ready.apply.posted = s.apply.posted ∧
      s.ready.apply.proposal = s.apply.proposal := by
  obtain ⟨stamp, draw, posted, proposal, -⟩ := s.enterReady_leaves
  have round : s.readyOffered.round.timer = some s.start.straps.period ∧ s.readyOffered.round.inFlight = true ∧
      s.readyOffered.round.stamp = s.round.stamp := by
    rw [readyOffered_eq]
    exact ⟨rfl, rfl, stamp⟩
  have blocks : s.readyOffered.port = s.enterReady.port ∧ s.readyOffered.fault = s.enterReady.fault ∧
      s.readyOffered.apply = s.enterReady.apply ∧ s.readyOffered.start = s.start := by
    rw [readyOffered_eq]
    exact ⟨rfl, rfl, rfl, enterReady_start s⟩
  obtain ⟨timer, flight, stamped⟩ := round
  obtain ⟨port, fault, apply, start⟩ := blocks
  rw [ready_eq]
  split
  · have timer' : s.readyOffered.judgePartner.round.timer = some s.start.straps.period := by
      rcases s.readyOffered.judgePartner_timer with e | e
      · exact e.trans timer
      · rw [e, start]
    obtain ⟨closed, -⟩ := s.readyOffered.judgePartner_counters
    refine ⟨timer', judgePartner_stays flight, ?_, judgePartner_offering _, ?_, ?_, ?_⟩
    · rw [judgePartner_round]; exact stamped
    · rw [judgePartner_port, port]
    · rw [closed, fault]
    · rw [judgePartner_apply, apply]; exact ⟨draw, posted, proposal⟩
  · rw [port, fault, apply]
    exact ⟨timer, flight, stamped, rfl, rfl, rfl, draw, posted, proposal⟩

theorem ready_emptied {s : State} (mute : s.station.mutePending = true) : s.ready.line.waiting = 0 := by
  have entered : s.readyOffered.station.state = .mute := by
    rw [readyOffered_eq, enterReady_station]
    exact s.readyState_mute_iff.mpr mute
  rw [ready_eq, if_neg (by simp [entered]), readyOffered_eq]
  exact enterReady_emptied mute

/-! ### The end of LISTEN -/

/-- The state at the end of LISTEN, before READY: the time left has passed and stage 5 is reached (R150). -/
def listened (s : State) : State :=
  (s.advance (s.start.listenLeft.getD 0)).withStart { s.start with
    listenLeft := none
    record := { s.start.record with stage := 5, listenResult := if s.station.mutePending then .failed else .ok } }

theorem endListen_eq (s : State) : s.endListen = s.listened.ready := rfl

theorem listened_receiving {s : State} (on : s.station.off = false) : s.listened.receiving = true := by
  simp [receiving, strapped, listened, advance, on]

theorem exec_listenEnd {s : State} (h : s.atStage 4 = true) : exec .listenEnd s = .next s.listened.ready := by
  simp [exec, execListenEnd, h, endListen_eq]

end Sys2Proof.Machine.State

open Sys2Proof Sys2Proof.Machine

/-- Settles O10: READY finds the state as it stood, less the time left of LISTEN. -/
theorem listenEnd : Obligations.ListenEnd := by
  intro s start stage high on
  refine ⟨_, State.exec_listenEnd ((State.atStage_iff 4 s).mpr ⟨start, stage, high⟩), ?_⟩
  obtain ⟨state, latchCleared, muteCleared, hold⟩ := s.listened.ready_station
  obtain ⟨timer, flight, stamp, offering, port, discharge, draw, posted, proposal⟩ := s.listened.ready_leaves
  rw [State.readyOffered_offering (State.listened_receiving on)] at offering
  refine ⟨State.ready_start _, state, latchCleared, muteCleared, hold, timer, flight, stamp, offering,
    fun mute => State.ready_emptied mute, fun mute latch => discharge.trans (State.enterReady_latches mute latch),
    State.ready_peers _, State.ready_gauge _, State.ready_policy _, State.ready_accrued _, State.ready_pins _, draw, posted,
    proposal, fun latch => ?_⟩
  rw [port, State.enterReady_port (by exact latch)]
  rfl
end

section
/-!
SUPPORT. The arrival of another station's STATE: the entry written, the partner judged, and what the arrival leaves alone
(R153, R155, R157).
-/

namespace Sys2Proof.Machine

/-! ### The fields of a post -/

/-- The station states a P42 composes are those of the codes 1 to 4 (R143). -/
theorem stationOfCode_isSome_iff (b : Byte) : (stationOfCode b).isSome = true ↔ 1 ≤ b.toNat ∧ b.toNat ≤ 4 := by
  refine ⟨fun h => ?_, fun h => ?_⟩
  · unfold stationOfCode at h
    split at h
    case h_5 => simp at h
    all_goals omega
  · obtain ⟨st, named⟩ := stationOfCode_composed h
    simp [named]

theorem stationOfCode_code {b : Byte} {st : StationState} (h : stationOfCode b = some st) : st.code = b.toNat := by
  unfold stationOfCode at h
  split at h
  case h_5 => cases h
  all_goals
    rename_i code
    obtain rfl := Option.some.inj h
    exact code.symm

theorem fieldsComposable_iff (p : StatePost) : fieldsComposable p = true ↔
    1 ≤ p.station.toNat ∧ p.station.toNat ≤ 4 ∧ p.phase.toNat ≤ 4 ∧ p.port.toNat ≤ 4 ∧ p.outcome.toNat ≤ 6 := by
  simp [fieldsComposable, stationOfCode_isSome_iff, and_assoc]

/-! ### The peer table -/

theorem entryAt_cons (a : BitVec 3) (e : Entry) (es : List Entry) :
    entryAt a (e :: es) = if e.address = a then some e else entryAt a es := by
  by_cases h : e.address = a <;> simp [entryAt, h]

theorem entryAt_append (a : BitVec 3) (es fs : List Entry) :
    entryAt a (es ++ fs) = (entryAt a es).or (entryAt a fs) := List.find?_append

/-- An entry replaced in its place is found at its address, where one was found, and no other search sees it (R153). -/
theorem entryAt_replaced (a : BitVec 3) (e : Entry) (es : List Entry) :
    entryAt a (es.map fun f => if f.address = e.address then e else f) =
      if a = e.address then (entryAt a es).map fun _ => e else entryAt a es := by
  induction es with
  | nil => simp [entryAt]
  | cons f fs ih =>
    rw [List.map_cons, entryAt_cons, entryAt_cons, ih]
    by_cases searched : a = e.address
    · by_cases own : f.address = e.address <;> simp [own, searched]
    · by_cases own : f.address = e.address <;> simp [own, searched, Ne.symm searched]

theorem entryAt_writeEntry_own (e : Entry) (es : List Entry) : entryAt e.address (writeEntry e es) = some e := by
  simp only [writeEntry]
  split
  case isTrue held =>
    obtain ⟨f, found⟩ := Option.isSome_iff_exists.mp held
    simp [entryAt_replaced, found]
  case isFalse new =>
    rw [entryAt_append, Option.not_isSome_iff_eq_none.mp new, entryAt_cons]
    simp

theorem entryAt_writeEntry_other {a : BitVec 3} {e : Entry} (es : List Entry) (h : a ≠ e.address) :
    entryAt a (writeEntry e es) = entryAt a es := by
  simp only [writeEntry]
  split
  · rw [entryAt_replaced, if_neg h]
  · rw [entryAt_append, entryAt_cons, if_neg h.symm]
    simp [entryAt]

theorem seqGap_iff (seq : Byte) (before : Option Entry) :
    seqGap seq before = true ↔ ∃ e, before = some e ∧ seq.toNat ≠ (e.seq + 1) % 256 := by
  cases before <;> simp [seqGap]

namespace State

/-! ### What an arrival leaves alone -/

/-- What no arrival moves: of the round unit all but timer, sweep marks and held composition, the posted values, barring and
history, and of the port all but its draw limit; draw and charge are at most lowered. -/
structure Heard (s t : State) : Prop where
  round : t.round = { s.round with
    timer := t.round.timer, inFlight := t.round.inFlight, earlyRequest := t.round.earlyRequest, held := t.round.held }
  posted : t.apply.posted = s.apply.posted
  draw : t.apply.draw ≤ s.apply.draw
  charge : t.apply.charge ≤ s.apply.charge
  barring : t.hinge.barring = s.hinge.barring
  history : t.hinge.history = s.hinge.history
  port : t.port = { s.port with drawLimit := t.port.drawLimit }

theorem Heard.trans {s t u : State} (h : Heard s t) (k : Heard t u) : Heard s u where
  round := by rw [k.round, h.round]
  posted := k.posted.trans h.posted
  draw := k.draw.trans h.draw
  charge := k.charge.trans h.charge
  barring := k.barring.trans h.barring
  history := k.history.trans h.history
  port := by rw [k.port, h.port]

/-- An operation that leaves the four blocks leaves what no arrival moves. -/
theorem Heard.of_blocks {s t : State} (round : t.round = s.round) (apply : t.apply = s.apply) (hinge : t.hinge = s.hinge)
    (port : t.port = s.port) : Heard s t where
  round := by rw [round]
  posted := by rw [apply]
  draw := by rw [apply]
  charge := by rw [apply]
  barring := by rw [hinge]
  history := by rw [hinge]
  port := by rw [port]

theorem judgePartner_heard (s : State) : Heard s s.judgePartner := by
  obtain ⟨barring, history⟩ := s.judgePartner_barring
  have apply := s.judgePartner_apply
  exact ⟨by rw [judgePartner_round], by rw [apply], by rw [apply], by rw [apply], barring, history, by rw [judgePartner_port]⟩

theorem takeEntry_heard (source : BitVec 3) (post : StatePost) (st : StationState) (s : State) :
    Heard s (s.takeEntry source post st) := by
  have written : Heard s (s.entryWritten source post st) :=
    .of_blocks (countIf_round _ _ s) (countIf_apply _ _ s) (countIf_hinge _ _ s) (countIf_port _ _ s)
  exact written.trans (judgePartner_heard _)

theorem judgeLink_heard (s : State) : Heard s s.judgeLink := by
  have apply : s.judgeLink.apply = { s.apply with link := s.judgedLink, linkMa := s.judgeLink.apply.linkMa } := setLink_apply _ s
  exact ⟨by rw [judgeLink_round], by rw [apply], by rw [apply], by rw [apply], setLink_barring _ s, setLink_history _ s,
    by rw [judgeLink_port]⟩

/-- The arrival run at most lowers draw and charge to its proposal (R62, R63). -/
theorem arrivalRun_heard (c : StateContents) (s : State) : Heard s (s.arrivalRun c) := by
  let run := s.run (s.composedSet c)
  obtain ⟨-, -, posted, draw, charge, -⟩ := replaceProposal_apply run.1.setting run.2.code s
  obtain ⟨barring, history, -, port⟩ := s.replaceProposal_stages run.1.setting run.2.code
  have replaced : Heard s (s.runReplaced run) :=
    ⟨by rw [runReplaced_round], posted, draw.trans_le (Nat.min_le_left _ _), charge.trans_le (Nat.min_le_left _ _), barring,
      history, port⟩
  have served (u : State) (r : Setting) (code : Nat) : Heard u (u.servePost r code) := by
    have apply := servePost_apply r code u
    exact ⟨by rw [servePost_round], by rw [apply], by rw [apply], by rw [apply], by rw [servePost_hinge],
      by rw [servePost_hinge], by rw [servePost_port]⟩
  rw [arrivalRun_eq]
  exact (replaced.trans (served _ _ _)).trans
    (.of_blocks (countIf_round _ _ _) (countIf_apply _ _ _) (countIf_hinge _ _ _) (countIf_port _ _ _))

theorem serveArrival_heard (s : State) : Heard s s.serveArrival := by
  have freed : Heard s s.freed := ⟨rfl, rfl, le_rfl, le_rfl, rfl, rfl, rfl⟩
  have run : Heard s.freed s.freed.arrivalRunIfDue := by
    simp only [arrivalRunIfDue]
    split
    · exact .of_blocks rfl rfl rfl rfl
    · split
      exacts [arrivalRun_heard _ _, .of_blocks rfl rfl rfl rfl]
  rw [serveArrival_eq]
  exact (freed.trans run).trans (judgeLink_heard _)

/-! ### The counter LINE -/

/-- In a queue with room the partner judgement counts nothing in LINE (R140). -/
theorem judgePartner_counter {s : State} (room : s.line.waiting < 4) : s.judgePartner.fault.line = s.fault.line := by
  rw [judgePartner_fault]
  rcases s.judgeCrowd_logs with e | ⟨-, e⟩ <;> rw [e]
  exact (logKind_fits .crowd (by exact room)).1

theorem takeEntry_counter {source : BitVec 3} (post : StatePost) (st : StationState) {s : State} (room : s.line.waiting < 4) :
    (s.takeEntry source post st).fault.line =
      if seqGap post.seq (entryAt source s.peers) then s.fault.line.bump else s.fault.line := by
  have line : (s.entryWritten source post st).line = s.line := countIf_line _ _ s
  rw [takeEntry_eq, judgePartner_counter (by rw [line]; exact room)]
  simp only [entryWritten, withStation_fault, withPeers_fault, countIf]
  split <;> rfl

/-- UNORDERED is counted in ALLOT (R164). -/
theorem countIf_unordered (b : Bool) (s : State) : (s.countIf b .allotUnordered).fault.line = s.fault.line := by
  cases b <;> rfl

theorem serveArrival_counter (s : State) : s.serveArrival.fault.line = s.fault.line := by
  have run (u : State) : u.arrivalRunIfDue.fault.line = u.fault.line := by
    simp only [arrivalRunIfDue]
    split
    · rfl
    · split
      · rw [arrivalRun_eq, countIf_unordered, servePost_fault]
        exact congrArg FaultUnit.line (replaceProposal_fault _ _ u)
      · rfl
  rw [serveArrival_eq, judgeLink_fault, run]
  rfl

/-! ### The station state -/

/-- Without stuck hold PAIRED follows the partner from SOLO and PAIRED (R155, R157). -/
theorem judgePartner_serving {s : State} (free : s.station.stuckHold = false)
    (serving : s.station.state = .solo ∨ s.station.state = .paired) :
    s.judgePartner.station.state = if s.partner = none then .solo else .paired := by
  rcases serving with solo | paired
  · rw [judgePartner_solo_state solo, free]
    cases s.partner <;> simp
  · cases partner : s.partner with
    | none => exact (judgePartner_leaves paired partner).1
    | some e =>
      have stays : s.judgePartner = s.judgeCrowd := by
        have still : s.judgeCrowd.partner = some e := by rw [State.partner, judgeCrowd_peers]; exact partner
        simp [judgePartner, judgeCrowd_station, paired, still]
      rw [stays, judgeCrowd_station, paired]
      rfl

theorem judgePartner_resting {s : State} (notSolo : s.station.state ≠ .solo) (notPaired : s.station.state ≠ .paired) :
    s.judgePartner.station.state = s.station.state :=
  s.judgePartner_state.resolve_right fun h => h.1.elim notSolo notPaired

/-! ### The arrival taken -/

/-- A post with fields that no P42 composes is counted and no more (R153). -/
theorem takeArrival_refused {post : StatePost} (source : BitVec 3) (s : State) (bad : ¬fieldsComposable post = true) :
    s.takeArrival source post = s.count .lineCrc := by
  simp only [takeArrival, if_neg bad]
  split <;> rfl

/-- Any other is taken, and then served by the apply unit or not (R68, R153). -/
theorem takeArrival_taken {post : StatePost} {st : StationState} (source : BitVec 3) (s : State)
    (named : stationOfCode post.station = some st) (fields : fieldsComposable post = true) :
    s.takeArrival source post = (s.takeEntry source post st).serveArrival ∨
      s.takeArrival source post = s.takeEntry source post st := by
  simp only [takeArrival, named, fields, if_true]
  split
  exacts [.inl rfl, .inr rfl]

theorem takeArrival_heard (source : BitVec 3) (post : StatePost) (s : State) : Heard s (s.takeArrival source post) := by
  by_cases fields : fieldsComposable post = true
  · obtain ⟨lo, hi, -⟩ := (fieldsComposable_iff post).mp fields
    obtain ⟨st, named⟩ := stationOfCode_composed ⟨lo, hi⟩
    have taken := takeEntry_heard source post st s
    rcases takeArrival_taken source s named fields with e | e <;> rw [e]
    exacts [taken.trans (serveArrival_heard _), taken]
  · rw [takeArrival_refused source s fields]
    exact .of_blocks rfl rfl rfl rfl

/-- Being served moves neither table nor station nor the counter LINE. -/
theorem takeArrival_entry {post : StatePost} {st : StationState} (source : BitVec 3) (s : State)
    (named : stationOfCode post.station = some st) (fields : fieldsComposable post = true) :
    (s.takeArrival source post).peers = (s.takeEntry source post st).peers ∧
      (s.takeArrival source post).station = (s.takeEntry source post st).station ∧
      (s.takeArrival source post).fault.line = (s.takeEntry source post st).fault.line := by
  rcases takeArrival_taken source s named fields with e | e <;> rw [e]
  · exact ⟨serveArrival_peers _, serveArrival_station _, serveArrival_counter _⟩
  · exact ⟨rfl, rfl, rfl⟩

/-- The table with the entry of the post written (R153). -/
theorem takeEntry_peers (source : BitVec 3) (post : StatePost) (st : StationState) (s : State) :
    (s.takeEntry source post st).peers =
      writeEntry (entryOf source post st ((entryAt source s.peers).bind Entry.lastL)) s.peers := by
  rw [takeEntry_eq, judgePartner_peers]
  simp [entryWritten]

/-- The station once the partner is judged without stuck hold (R157). -/
theorem takeEntry_station (source : BitVec 3) (post : StatePost) (st : StationState) (s : State) :
    (s.takeEntry source post st).station.stuckHold = false ∧
    (s.station.state = .solo ∨ s.station.state = .paired → (s.takeEntry source post st).station.state =
      if (s.takeEntry source post st).partner = none then .solo else .paired) ∧
    (s.station.state ≠ .solo → s.station.state ≠ .paired →
      (s.takeEntry source post st).station.state = s.station.state) := by
  let u := s.entryWritten source post st
  have state : u.station.state = s.station.state := by simp [u, entryWritten]
  have partner : u.judgePartner.partner = u.partner := congrArg partnerOf u.judgePartner_peers
  rw [takeEntry_eq, partner]
  refine ⟨by rw [judgePartner_station]; rfl, fun serving => ?_, fun notSolo notPaired => ?_⟩
  · exact judgePartner_serving rfl (state ▸ serving)
  · exact (judgePartner_resting (s := u) (state ▸ notSolo) (state ▸ notPaired)).trans state

/-- No arrival leads into SHELF (R157). -/
theorem takeArrival_awake {source : BitVec 3} {post : StatePost} {s : State} (awake : s.station.state ≠ .shelf) :
    (s.takeArrival source post).station.state ≠ .shelf := by
  by_cases fields : fieldsComposable post = true
  · obtain ⟨lo, hi, -⟩ := (fieldsComposable_iff post).mp fields
    obtain ⟨st, named⟩ := stationOfCode_composed ⟨lo, hi⟩
    obtain ⟨-, station, -⟩ := takeArrival_entry source s named fields
    rw [station, takeEntry_eq]
    exact judgePartner_state_ne (by simpa [entryWritten] using awake) nofun nofun
  · rw [takeArrival_refused source s fields]
    exact awake

/-! ### The event -/

/-- The state after the arrival of a STATE of another P42. -/
def arrived (source : BitVec 3) (post : StatePost) (vIn : Nat) (s : State) : State :=
  (s.endReception.takeArrival source post).settleShelf vIn

section
variable {source : BitVec 3} {post : StatePost} (vIn : Nat) (s : State)

/-- The end of the event moves neither table nor station state nor LINE (R159). -/
theorem arrived_settled : let u := s.endReception.takeArrival source post
    (s.arrived source post vIn).peers = u.peers ∧ (s.arrived source post vIn).station.state = u.station.state ∧
      (s.arrived source post vIn).station.stuckHold = u.station.stuckHold ∧
      (s.arrived source post vIn).fault.line = u.fault.line ∧
      (s.arrived source post vIn).apply =
        { u.apply with rewritePending := (s.arrived source post vIn).apply.rewritePending } :=
  ⟨settleShelf_peers _ _, settleShelf_state _ _, settleShelf_stuckHold _ _, settleShelf_counter _ _,
    settleShelf_apply_rewrite _ _⟩

theorem arrived_refused (bad : ¬fieldsComposable post = true) :
    (s.arrived source post vIn).fault.line = s.fault.line.bump ∧ (s.arrived source post vIn).peers = s.peers ∧
      (s.arrived source post vIn).apply =
        { s.apply with rewritePending := (s.arrived source post vIn).apply.rewritePending } ∧
      (s.arrived source post vIn).station.state = s.station.state := by
  obtain ⟨peers, state, -, counter, apply⟩ := s.arrived_settled (source := source) (post := post) vIn
  rw [takeArrival_refused source _ bad] at peers state counter apply
  exact ⟨counter, peers, apply, state⟩

/-- What an arrival leaves of the whole part, taken or not. -/
theorem arrived_frame : let t := s.arrived source post vIn
    t.round.seq = s.round.seq ∧ t.round.posted = s.round.posted ∧ t.round.composed = s.round.composed ∧
      t.round.channels = s.round.channels ∧ t.gauge = s.gauge ∧ t.policy = s.policy ∧ t.start = s.start ∧
      t.pins = s.pins ∧ t.clock = s.clock ∧ t.apply.posted = s.apply.posted ∧ t.apply.draw ≤ s.apply.draw ∧
      t.apply.charge ≤ s.apply.charge ∧ t.hinge.barring = s.hinge.barring ∧ t.hinge.history = s.hinge.history ∧
      (s.station.state ≠ .shelf → t.port = { s.port with drawLimit := t.port.drawLimit }) := by
  intro t
  have heard := s.endReception.takeArrival_heard source post
  have hinge : t.hinge = _ := settleShelf_hinge vIn (s.endReception.takeArrival source post)
  have apply : t.apply = _ := settleShelf_apply_rewrite vIn (s.endReception.takeArrival source post)
  have round : t.round = { s.round with
      timer := t.round.timer, inFlight := t.round.inFlight, earlyRequest := t.round.earlyRequest
      held := t.round.held } := by
    simp only [t, arrived]
    rw [settleShelf_round_held, heard.round]
    rfl
  refine ⟨by rw [round], by rw [round], by rw [round], by rw [round], by simp [t, arrived], by simp [t, arrived],
    by simp [t, arrived], by simp [t, arrived], by simp [t, arrived], ?_, ?_, ?_, ?_, ?_, fun awake => ?_⟩
  · rw [apply]; exact heard.posted
  · rw [apply]; exact heard.draw
  · rw [apply]; exact heard.charge
  · rw [hinge]; exact heard.barring
  · rw [hinge]; exact heard.history
  · have still : t = s.endReception.takeArrival source post := settleShelf_outside vIn _ (takeArrival_awake (by exact awake))
    rw [still]
    exact heard.port

variable {st : StationState} (named : stationOfCode post.station = some st) (fields : fieldsComposable post = true)
include named fields

theorem arrived_peers : (s.arrived source post vIn).peers =
    writeEntry (entryOf source post st ((entryAt source s.peers).bind Entry.lastL)) s.peers := by
  obtain ⟨peers, -⟩ := s.arrived_settled (source := source) (post := post) vIn
  obtain ⟨table, -⟩ := takeArrival_entry source s.endReception named fields
  rw [peers, table, takeEntry_peers]
  rfl

theorem arrived_counter (room : s.line.waiting < 4) : (s.arrived source post vIn).fault.line =
    if seqGap post.seq (entryAt source s.peers) then s.fault.line.bump else s.fault.line := by
  obtain ⟨-, -, -, counter, -⟩ := s.arrived_settled (source := source) (post := post) vIn
  obtain ⟨-, -, line⟩ := takeArrival_entry source s.endReception named fields
  exact counter.trans (line.trans (takeEntry_counter post st room))

/-- The stuck hold is cleared, and PAIRED follows the partner from SOLO and PAIRED (R157). -/
theorem arrived_station : (s.arrived source post vIn).station.stuckHold = false ∧
    (s.station.state = .solo ∨ s.station.state = .paired → (s.arrived source post vIn).station.state =
      if (s.arrived source post vIn).partner = none then .solo else .paired) ∧
    (s.station.state ≠ .solo → s.station.state ≠ .paired →
      (s.arrived source post vIn).station.state = s.station.state) := by
  obtain ⟨peers, state, hold, -⟩ := s.arrived_settled (source := source) (post := post) vIn
  obtain ⟨table, station, -⟩ := takeArrival_entry source s.endReception named fields
  rw [hold, state, partner, peers, station, table]
  exact takeEntry_station source post st s.endReception

end

end State
end Sys2Proof.Machine

open Sys2Proof Sys2Proof.Machine

/-- Settles O20: the entry taken decides table, station and LINE, and neither the service of the arrival nor the end of the
event moves them. -/
theorem stateArrivalTaken : Obligations.StateArrivalTaken := by
  intro source p vIn s on other notPolicy
  refine ⟨s.arrived source p vIn, State.exec_stateArrival p vIn on other notPolicy, ?_⟩
  intro good before
  have composable : fieldsComposable p = true ↔ good := fieldsComposable_iff p
  refine ⟨fun bad => s.arrived_refused vIn (mt composable.mp bad), fun h => ?_, s.arrived_frame vIn⟩
  have fields := composable.mpr h
  obtain ⟨lo, hi, -⟩ := h
  obtain ⟨st, named⟩ := stationOfCode_composed ⟨lo, hi⟩
  have counter := s.arrived_counter (source := source) vIn named fields
  obtain ⟨hold, serving, resting⟩ := s.arrived_station (source := source) vIn named fields
  let e := entryOf source p st (before.bind Entry.lastL)
  have peers : (s.arrived source p vIn).peers = writeEntry e s.peers := s.arrived_peers vIn named fields
  have own : entryAt source (writeEntry e s.peers) = some e := entryAt_writeEntry_own e s.peers
  refine ⟨⟨e, by rw [peers, own], rfl, rfl, rfl, rfl, stationOfCode_code named, rfl, rfl, rfl, rfl, rfl, rfl⟩, ?_,
    fun a foreign => by rw [peers, entryAt_writeEntry_other s.peers (e := e) foreign], hold, serving, resting,
    fun next room => ?_, fun e' held gap room => ?_⟩
  · rw [peers, State.writeEntry_addresses]
    change (if before.isSome = true then _ else _) = _
    cases before <;> rfl
  · rw [counter room, if_neg]
    intro gap
    obtain ⟨e', held, differs⟩ := (seqGap_iff p.seq before).mp gap
    exact differs (next e' held)
  · rw [counter room, if_pos ((seqGap_iff p.seq before).mpr ⟨e', held, gap⟩)]
end

section
/-!
SUPPORT. The fault unit's memory, its log and its counters: what a kind logged and a kind counted keep of its form (R167, R173),
what the operations of the machine keep, and every step.
-/

namespace Sys2Proof.Machine

/-! ### One counter, one class of the log -/

/-- An increase stops at 127 (R173). -/
theorem Counter.Sound.bump {c : Counter} (sound : c.Sound) : c.bump.Sound := by
  obtain ⟨range, flag⟩ := sound
  rcases c.bump_cases with ⟨below, e⟩ | ⟨top, e⟩ <;> rw [e]
  · exact ⟨below, fun full => absurd (flag full) below.ne⟩
  · exact ⟨range, fun _ => by simp only; omega⟩

/-- No two kinds have one number (R163). -/
theorem Kind.number_injective : Function.Injective Kind.number := by
  have inverse : Function.LeftInverse (fun n => Kind.ofNat (n - 1)) Kind.number := fun k => by cases k <;> rfl
  exact inverse.injective

/-- A kind joins the next set in its place in the order of numbers (R167). -/
theorem insertKind_sorted {k : Kind} {l : List Kind} (sorted : l.Pairwise fun a b => a.number < b.number) :
    (insertKind k l).Pairwise fun a b => a.number < b.number := by
  induction l with
  | nil => simp [insertKind]
  | cons x xs ih =>
    obtain ⟨least, rest⟩ := List.pairwise_cons.mp sorted
    simp only [insertKind]
    split
    next below =>
      refine List.pairwise_cons.mpr ⟨fun y mem => ?_, sorted⟩
      rcases List.mem_cons.mp mem with rfl | later
      exacts [below, below.trans (least y later)]
    next notBelow =>
      split
      · exact sorted
      next other =>
        have above : x.number < k.number :=
          lt_of_le_of_ne (not_lt.mp notBelow) fun same => other (Kind.number_injective same).symm
        refine List.pairwise_cons.mpr ⟨fun y mem => ?_, ih rest⟩
        rcases (mem_insertKind k y xs).mp mem with rfl | later
        exacts [above, least y later]

theorem ClassLog.empty_sound (c : Class) : ClassLog.empty.Sound c := by simp [ClassLog.Sound, ClassLog.empty]

/-- A kind of the class joins as the first record or in the next set, once (R167). -/
theorem ClassLog.Sound.add {k : Kind} {r : FaultRecord} {log v : ClassLog} {first : Bool} (sound : log.Sound k.severity)
    (own : r.kind = k) (h : log.add k r = some (v, first)) : v.Sound k.severity := by
  obtain ⟨sorted, members, bare, record⟩ := sound
  rcases log.add_cases k r with ⟨none, e⟩ | ⟨old, -, -, e⟩ | ⟨old, some, other, absent, e⟩
  · obtain ⟨rfl, -⟩ := Prod.mk.inj (Option.some.inj (e.symm.trans h))
    simp [ClassLog.Sound, bare none, own]
  · simp [e] at h
  · obtain ⟨rfl, -⟩ := Prod.mk.inj (Option.some.inj (e.symm.trans h))
    obtain ⟨ownClass, apart⟩ := record old some
    have firstKept (r : FaultRecord) (mem : r ∈ log.first) : r = old := Option.some.inj (mem.symm.trans some)
    refine ⟨insertKind_sorted sorted, fun j mem => ?_, fun none => by simp [some] at none, fun r mem => ?_⟩
    · rcases (mem_insertKind k j log.next).mp mem with rfl | held
      exacts [rfl, members j held]
    · rw [firstKept r mem, mem_insertKind]
      exact ⟨ownClass, not_or.mpr ⟨other, apart⟩⟩

/-! ### The fault unit -/

namespace FaultUnit

/-- The fault unit less its switch, its comparators and its pin. -/
def memory (f : FaultUnit) : FaultUnit :=
  { f with dischargeClosed := true, armed := false, overvoltAsserted := false, overcurrentAsserted := false
           fltAsserted := false }

/-- `g` keeps the counters of `f` in range, and its log in form. -/
structure KeepsForm (f g : FaultUnit) : Prop where
  counters : f.CountersSound → g.CountersSound
  log : f.LogSound → g.LogSound

theorem KeepsForm.refl (f : FaultUnit) : KeepsForm f f := ⟨id, id⟩

theorem KeepsForm.trans {f g h : FaultUnit} (k : KeepsForm f g) (l : KeepsForm g h) : KeepsForm f h :=
  ⟨l.counters ∘ k.counters, l.log ∘ k.log⟩

theorem KeepsForm.of_eq {f g : FaultUnit} (h : g = f) : KeepsForm f g := h ▸ .refl f

/-- The bounds speak of the memory alone. -/
theorem KeepsForm.of_memory {f g : FaultUnit} (h : g.memory = f.memory) : KeepsForm f g := by
  have counters : f.memory.CountersSound → g.memory.CountersSound := h ▸ id
  have log : f.memory.LogSound → g.memory.LogSound := h ▸ id
  exact ⟨counters, log⟩

/-- Both bounds hold after a reset that clears the memory (R162). -/
theorem KeepsForm.of_reset (f : FaultUnit) : KeepsForm f .reset := ⟨fun _ => by decide, fun _ => by decide⟩

theorem count_keeps (k : Corrected) (f : FaultUnit) : KeepsForm f (f.count k) := by
  have log : f.LogSound → (f.count k).LogSound := by cases k <;> exact id
  refine ⟨fun ⟨line, link, allot, gauge⟩ => ?_, log⟩
  cases k
  case linkUnanswered => exact ⟨line, link.bump, allot, gauge⟩
  case allotUnordered => exact ⟨line, link, allot.bump, gauge⟩
  case learnReject | gaugeClip => exact ⟨line, link, allot, gauge.bump⟩
  all_goals exact ⟨line.bump, link, allot, gauge⟩

/-- The log of a class gives way to another in form (R167, R174). -/
theorem withLog_keeps {c : Class} {v : ClassLog} {f : FaultUnit} (h : (f.log c).Sound c → v.Sound c) :
    KeepsForm f (f.withLog c v) := by
  refine ⟨?_, fun ⟨halting, degraded⟩ => ?_⟩
  · cases c <;> exact id
  · cases c
    exacts [⟨halting, h degraded⟩, ⟨h halting, degraded⟩]

theorem clearCounters_keeps (f : FaultUnit) : KeepsForm f f.clearCounters :=
  ⟨fun _ => (by decide : FaultUnit.reset.CountersSound), id⟩

end FaultUnit

namespace State

open FaultUnit (KeepsForm count_keeps withLog_keeps clearCounters_keeps)

/-- `t` keeps the fault unit's memory of `s` in form. -/
def FaultKept (s t : State) : Prop :=
  s.fault.KeepsForm t.fault

theorem FaultKept.refl (s : State) : FaultKept s s := KeepsForm.refl _

theorem FaultKept.trans {s t u : State} (h : FaultKept s t) (k : FaultKept t u) : FaultKept s u := KeepsForm.trans h k

theorem FaultKept.of_fault {s t : State} (fault : t.fault = s.fault) : FaultKept s t := KeepsForm.of_eq fault

theorem FaultKept.of_memory {s t : State} (memory : t.fault.memory = s.fault.memory) : FaultKept s t :=
  KeepsForm.of_memory memory

/-- What is kept from a state of the same memory on. -/
theorem FaultKept.after {s t u : State} (k : FaultKept t u) (memory : t.fault.memory = s.fault.memory) : FaultKept s u :=
  (FaultKept.of_memory memory).trans k

/-! ### Counts and posts handed to the queue -/

theorem count_faultKept (k : Corrected) (s : State) : FaultKept s (s.count k) := count_keeps k s.fault

theorem countIf_faultKept (b : Bool) (k : Corrected) (s : State) : FaultKept s (s.countIf b k) := by
  cases b
  exacts [.refl s, count_faultKept k s]

theorem handAlert_faultKept (a : AlertContents) (s : State) : FaultKept s (s.handAlert a) := by
  simp only [handAlert]
  split
  exacts [(countIf_faultKept _ _ _).after rfl, .refl s]

theorem handReply_faultKept (a : ReplyContents) (s : State) : FaultKept s (s.handReply a) := by
  simp only [handReply]
  split
  exacts [(countIf_faultKept _ _ _).after rfl, .refl s]

theorem handState_faultKept (p : OwnState) (s : State) : FaultKept s (s.handState p) := by
  simp only [handState]
  split
  · split
    exacts [.of_fault rfl, (countIf_faultKept _ _ _).after rfl]
  · exact .refl s

theorem releaseHeld_faultKept (s : State) : FaultKept s s.releaseHeld := by
  simp only [releaseHeld]
  split
  exacts [.refl s, (handState_faultKept _ _).after rfl]

/-! ### The log -/

theorem logKind_faultKept (k : Kind) (s : State) : FaultKept s (s.logKind k) := by
  simp only [logKind]
  split
  · exact .refl s
  next log first taken =>
    have added : s.fault.KeepsForm (s.fault.withLog k.severity log) := withLog_keeps fun sound => sound.add rfl taken
    have logged (pin : Bool) : FaultKept s (s.withFault { s.fault.withLog k.severity log with fltAsserted := pin }) :=
      added.trans (.of_memory rfl)
    split
    exacts [logged _, (logged _).trans (handAlert_faultKept _ _)]

/-- A HALTING kind moves nothing of the fault unit but the discharge switch (R171). -/
theorem haltingEffect_fault (s : State) :
    s.haltingEffect.fault = { s.fault with dischargeClosed := s.haltingEffect.fault.dischargeClosed } := by
  have latched : s.enterLatched.fault = { s.fault with dischargeClosed := false } := by simp [enterLatched]
  simp only [haltingEffect]
  split
  case h_1 | h_2 => rw [latched]
  case h_3 | h_4 | h_6 => rfl
  case h_5 => split <;> simp

theorem raise_faultKept (k : Kind) (s : State) : FaultKept s (s.raise k) := by
  simp only [raise]
  split
  · exact (logKind_faultKept k s).trans (.of_memory (by rw [haltingEffect_fault]; rfl))
  · exact logKind_faultKept k s

theorem raiseAll_faultKept (ks : List Kind) (s : State) : FaultKept s (s.raiseAll ks) := by
  induction ks generalizing s with
  | nil => exact .refl s
  | cons k ks ih => exact (raise_faultKept k s).trans (ih _)

/-! ### The partner judgement, the own round and the trip -/

theorem judgePartner_faultKept (s : State) : FaultKept s s.judgePartner := by
  have crowd : FaultKept s s.judgeCrowd := by
    rcases s.judgeCrowd_logs with e | ⟨-, e⟩
    exacts [.of_fault e, e ▸ (logKind_faultKept _ _).after rfl]
  exact crowd.trans (.of_fault s.judgePartner_fault)

theorem ownRound_faultKept (s : State) : FaultKept s s.ownRound := by
  have aged (u : State) : FaultKept u u.peersAged := by
    simp only [peersAged]
    split
    exacts [(logKind_faultKept _ _).after rfl, .of_fault rfl]
  have counted : FaultKept s s.roundCounted := .of_fault rfl
  rw [ownRound_eq, agePeers_eq]
  exact ((counted.trans (aged _)).trans (judgePartner_faultKept _)).trans (.of_fault (by simp))

theorem hingeTrip_faultKept (s : State) : FaultKept s s.hingeTrip := by
  have tripped : FaultKept s s.tripped := (raiseAll_faultKept _ _).after rfl
  rw [hingeTrip_eq]
  exact tripped.trans (.of_fault (setLink_fault 0 _))

/-! ### Resets and the start -/

/-- The values of a warm reset keep the log and the counters (R162). -/
theorem warmValues_faultKept (s : State) : FaultKept s s.warmValues := .of_memory rfl

theorem ready_faultKept (s : State) : FaultKept s s.ready := by
  have entered : FaultKept s s.enterReady := by
    simp only [enterReady]
    split
    · exact .of_fault (by simp)
    · split
      exacts [.of_memory (by simp [enterLatched, FaultUnit.memory]), .of_fault rfl]
  simp only [ready]
  generalize hu : withLine _ _ = u
  have offered : FaultKept s u := entered.trans (.of_fault (by simp [← hu]))
  split
  exacts [offered.trans (judgePartner_faultKept u), offered]

theorem endListen_faultKept (s : State) : FaultKept s s.endListen :=
  (ready_faultKept _).after (by simp)

theorem endStraps_faultKept (s0 s1 s2 s3 : Fin 16) (foldHigh : Bool) (s : State) :
    FaultKept s (s.endStraps s0 s1 s2 s3 foldHigh) := by
  simp only [endStraps]
  split
  exacts [(raise_faultKept _ _).after rfl, .of_fault rfl]

theorem endProfile_faultKept (packId vCell : Nat) (s : State) : FaultKept s (s.endProfile packId vCell) := by
  simp only [endProfile]
  split
  exacts [(raise_faultKept _ _).after rfl, .of_memory rfl]

theorem endCellCheck_faultKept (vCell : Nat) (tCell : Int) (s : State) : FaultKept s (s.endCellCheck vCell tCell) := by
  simp only [endCellCheck]
  split
  exacts [.of_fault rfl, (raise_faultKept _ _).after rfl]

/-! ### The sweep -/

/-- Steps 1 to 4 count, and log nothing (R30, R36, R86). -/
theorem sweptStages_faultKept (r : Readings) (s : State) : FaultKept s (s.sweptStages r) := by
  have measured (u : State) (moment : Nat) : FaultKept u (u.sweepGauge moment) := (countIf_faultKept _ _ _).after rfl
  have full (u : State) : FaultKept u u.gaugeFull := (countIf_faultKept _ _ _).after rfl
  have charged (u : State) (interval : Nat) : FaultKept u (u.sweepCharger interval).1 := by
    simp only [sweepCharger]
    split
    exacts [(full _).after rfl, .of_fault rfl]
  have checked (u : State) : FaultKept u u.sweepHinge := by
    simp only [sweepHinge]
    split
    · have counted : FaultKept u (u.count .linkUnanswered) := count_faultKept _ u
      exact counted.trans (.of_fault (setLink_fault 0 _))
    · exact .of_fault rfl
  have read : FaultKept s (s.takeReadings r) := .of_fault (takeReadings_fault r s)
  exact ((read.trans ((measured _ _).trans (charged _ _))).trans (.of_fault (sweepPort_fault _))).trans (checked _)

theorem completeSweep_faultKept (r : Readings) (s : State) : FaultKept s (s.completeSweep r) := by
  have raised : FaultKept s (s.sweptRaised r) := (sweptStages_faultKept r s).trans (raiseAll_faultKept _ _)
  have reported (u : State) : FaultKept u u.shortfallReported := by
    have taken : FaultKept u u.runTaken := .of_fault u.runTaken_fault
    simp only [shortfallReported]
    split
    exacts [taken.trans (raise_faultKept _ _), taken]
  have composed (u : State) : FaultKept u u.readyToCompose :=
    ((reported u).trans (countIf_faultKept _ _ _)).trans (.of_fault (handAll_fault _))
  rw [completeSweep_eq, sweepCompose_eq]
  exact (((raised.trans (composed _)).trans (.of_fault (recordComposed_fault _ _))).trans (handState_faultKept _ _)).trans
    (.of_fault (endSweep_fault _))

/-! ### Posts heard -/

theorem serveArrival_faultKept (s : State) : FaultKept s s.serveArrival := by
  have run (u : State) : FaultKept u u.arrivalRunIfDue := by
    simp only [arrivalRunIfDue]
    split
    · exact .refl u
    · split
      · rw [arrivalRun_eq]
        exact (countIf_faultKept _ _ _).after (by simp [runReplaced])
      · exact .refl u
  have freed : FaultKept s s.freed := .of_fault rfl
  rw [serveArrival_eq]
  exact (freed.trans (run _)).trans (.of_fault (judgeLink_fault _))

theorem takeArrival_faultKept (source : BitVec 3) (post : StatePost) (s : State) :
    FaultKept s (s.takeArrival source post) := by
  have taken (st : StationState) : FaultKept s (s.takeEntry source post st) := by
    have written : FaultKept s (s.entryWritten source post st) := countIf_faultKept _ .lineGap s
    rw [takeEntry_eq]
    exact written.trans (judgePartner_faultKept _)
  simp only [takeArrival]
  split
  · exact count_faultKept _ s
  · split
    · split
      exacts [(taken _).trans (serveArrival_faultKept _), taken _]
    · exact count_faultKept _ s

theorem endReception_faultKept (s : State) : FaultKept s s.endReception := .of_fault rfl

theorem takeClash_faultKept (s : State) : FaultKept s s.takeClash :=
  ((endReception_faultKept s).trans (raise_faultKept .addressClash _)).trans (.of_fault (clash_fault _))

/-- CLEAR_LOG, CLEAR_COUNTERS and ACK_PIN write the fault unit, no other item does (R170, R173, R174). -/
theorem item_faultKept (item argument : Byte) (s : State) : FaultKept s (s.item item argument).1 := by
  have named (i : Byte) (act : Class → State × ReplyContents) (h : ∀ c, FaultKept s (act c).1) :
      FaultKept s (classItem i argument s act).1 := by
    simp only [classItem]
    split
    exacts [.refl s, h _]
  simp only [State.item]
  split
  case h_1 | h_2 => exact named _ _ fun _ => .refl s
  case h_5 => exact named _ _ fun c => withLog_keeps fun _ => ClassLog.empty_sound c
  case h_6 => exact clearCounters_keeps s.fault
  case h_7 => exact .of_memory rfl
  all_goals exact .of_fault rfl

theorem takeQuery_faultKept (target : Byte) {act : State → State × ReplyContents} (kept : ∀ s, FaultKept s (act s).1)
    (s : State) : FaultKept s (s.takeQuery target act) := by
  have heard := endReception_faultKept s
  cases hr : s.receiving
  · rw [takeQuery, hr]; exact .refl s
  · rcases s.takeQuery_cases target act hr with ⟨-, e⟩ | ⟨-, -, e⟩ | ⟨-, -, e⟩ <;> rw [e]
    exacts [heard, heard.trans (count_faultKept _ _), (heard.trans (kept _)).trans (handReply_faultKept _ _)]

/-! ### Orders and the end of an event in SHELF -/

theorem settleShelf_faultKept (vIn : Nat) (s : State) : FaultKept s (s.settleShelf vIn) := by
  rcases s.settleShelf_cases vIn with ⟨-, -, -, e⟩ | e <;> rw [e]
  exacts [.of_memory rfl, .refl s]

theorem shelfOrder_faultKept (vIn : Nat) (s : State) : FaultKept s (s.shelfOrder vIn) := by
  have final (u : State) : FaultKept u u.queueFinal := by
    simp only [queueFinal]
    split
    exacts [.of_fault rfl, (handState_faultKept _ _).after rfl]
  have shelved : FaultKept s s.shelved := .of_fault s.shelved_fault
  simp only [shelfOrder]
  split
  · rw [enterShelf_eq]
    exact (shelved.trans (final _)).trans (settleShelf_faultKept _ _)
  · exact .refl s

theorem releaseOrder_faultKept (s : State) : FaultKept s s.releaseOrder := by
  have left : FaultKept s s.leaveLatched := by
    have closed : FaultKept s (s.withFault { s.fault with dischargeClosed := true }) := .of_memory rfl
    have asked (u : State) : FaultKept u (u.become .solo).requestSweep := .of_fault (by simp)
    exact ((closed.trans (asked _)).trans (judgePartner_faultKept _)).trans (.of_fault (by simp [leaveLatched]))
  simp only [releaseOrder]
  split
  case h_2 | h_3 => exact .of_fault (releaseHinge_fault s)
  case h_4 =>
    split
    exacts [left, .refl s]
  all_goals exact .refl s

theorem takeLimit_faultKept (post : LimitPost) (vIn : Nat) (s : State) : FaultKept s (s.takeLimit post vIn) := by
  simp only [takeLimit]
  generalize hu : requestSweep _ = u
  have stored : FaultKept s u := .of_fault (by simp [← hu])
  cases orderStored post.order
  exacts [stored, stored.trans (shelfOrder_faultKept vIn u), stored.trans (releaseOrder_faultKept u)]

/-! ### The line -/

theorem ownStateSent_faultKept (q : Queued OwnState) (s : State) : FaultKept s (s.ownStateSent q) := by
  have left : FaultKept s (s.sent q) := .of_fault (sent_fault q s)
  rw [ownStateSent_eq]
  exact left.trans (releaseHeld_faultKept _)

theorem settleRetry_faultKept (s : State) : FaultKept s s.settleRetry := by
  simp only [settleRetry]
  refine (releaseHeld_faultKept _).after ?_
  split <;> rfl

theorem abortPost_faultKept (k : PostKind) (s : State) : FaultKept s (s.abortPost k).1 := by
  cases k with
  | alert => exact .of_fault rfl
  | reply => exact .of_fault rfl
  | state =>
    simp only [abortPost]
    split
    · exact .refl s
    · split
      exacts [(settleRetry_faultKept _).after rfl, (releaseHeld_faultKept _).after rfl]

theorem echoMismatch_faultKept (k : PostKind) (read : List Bool) (s : State) :
    FaultKept s (s.echoMismatch k read).1 := by
  have echoed : FaultKept s (s.echoed read) := count_faultKept .lineBit (s.stopSending read)
  rw [echoMismatch_eq]
  exact echoed.trans (abortPost_faultKept k _)

theorem echoAbort_faultKept (k : PostKind) (read : List Bool) (s : State) : FaultKept s (s.echoAbort k read) := by
  simp only [echoAbort]
  split
  exacts [(echoMismatch_faultKept k read s).trans (raise_faultKept _ _), echoMismatch_faultKept k read s]

theorem lineStuck_faultKept (heard : List Bool) (s : State) : FaultKept s (s.lineStuck heard) := by
  have aborted (u : State) : FaultKept u u.abortRunning.1 := by
    simp only [abortRunning]
    split
    exacts [.refl u, echoMismatch_faultKept _ _ u]
  have silenced : FaultKept s (s.silenced heard) :=
    ((aborted s.foundStuck).after rfl).trans ((countIf_faultKept _ .lineCrc _).after rfl)
  have taken : FaultKept s (s.stuckTaken heard) :=
    (silenced.trans (logKind_faultKept .lineStuck _)).trans (.of_fault (stuckStation_fault _))
  rw [lineStuck_eq]
  split
  exacts [taken.trans (logKind_faultKept _ _), taken]

/-! ### Every command -/

theorem exec_faultKept {c : Instr} {s t : State} (h : exec c s = .next t) : FaultKept s t := by
  cases c
  case powerOnReset => cases h; exact KeepsForm.of_reset _
  case warmReset => cases h; exact warmValues_faultKept s
  case resetNRise => cases h; split; exacts [.refl s, .of_fault rfl]
  case strapsComplete => cases h; split; exacts [endStraps_faultKept _ _ _ _ _ s, .refl s]
  case profileComplete => cases h; split; exacts [endProfile_faultKept _ _ s, .refl s]
  case cellCheckComplete => cases h; split; exacts [endCellCheck_faultKept _ _ s, .refl s]
  case listenEnd => cases h; split; exacts [endListen_faultKept s, .refl s]
  case ownRoundExpiry => cases h; split; exacts [.refl s, (ownRound_faultKept _).after (by simp)]
  case sweepComplete => cases h; split; exacts [completeSweep_faultKept _ s, .refl s]
  case foldEdge =>
    cases h; split
    · exact .of_fault rfl
    · split
      exacts [(warmValues_faultKept _).after rfl, .of_fault (by simp)]
  case foldWindowExpiry => cases h; split; exacts [.refl s, .of_fault (by simp)]
  case stateArrival source post vIn =>
    cases h; split
    · exact .refl s
    · split
      · exact takeClash_faultKept s
      · split
        exacts [endReception_faultKept s,
          ((endReception_faultKept s).trans (takeArrival_faultKept _ _ _)).trans (settleShelf_faultKept _ _)]
  case limit post vIn =>
    cases h; split
    · exact .refl s
    · split
      exacts [(endReception_faultKept s).trans (takeLimit_faultKept _ _ _), endReception_faultKept s]
  case shelfOrder => cases h; exact shelfOrder_faultKept _ s
  case release => cases h; exact releaseOrder_faultKept s
  case readFirst target argument => cases h; exact takeQuery_faultKept _ (item_faultKept 1 argument) s
  case readNext target argument => cases h; exact takeQuery_faultKept _ (item_faultKept 2 argument) s
  case readCounters target argument => cases h; exact takeQuery_faultKept _ (item_faultKept 3 argument) s
  case readFlags target argument => cases h; exact takeQuery_faultKept _ (item_faultKept 4 argument) s
  case clearLog target argument => cases h; exact takeQuery_faultKept _ (item_faultKept 5 argument) s
  case clearCounters target argument => cases h; exact takeQuery_faultKept _ (item_faultKept 6 argument) s
  case ackPin target argument => cases h; exact takeQuery_faultKept _ (item_faultKept 7 argument) s
  case readProfile target argument => cases h; exact takeQuery_faultKept _ (item_faultKept 8 argument) s
  case readStart target argument => cases h; exact takeQuery_faultKept _ (item_faultKept 9 argument) s
  case badItem => cases h; exact takeQuery_faultKept _ (item_faultKept _ _) s
  case addressClash => cases h; split; exacts [takeClash_faultKept s, .refl s]
  case invalidPost =>
    cases h; split; exacts [(endReception_faultKept s).trans (countIf_faultKept _ _ _), .refl s]
  case discardedPost => cases h; split; exacts [endReception_faultKept s, .refl s]
  case lineIdle => cases h; split; exacts [.of_fault rfl, .refl s]
  case ownStateSent =>
    cases h; split; exacts [(ownStateSent_faultKept _ s).trans (settleShelf_faultKept _ _), .refl s]
  case alertSent | replySent => cases h; split; exacts [.of_fault rfl, .refl s]
  case lostArbitration read =>
    cases h; split
    case h_1 => exact .refl s
    case h_2 => exact (settleRetry_faultKept _).after rfl
    all_goals exact .of_fault rfl
  case echoAbort => cases h; split; exacts [.refl s, (echoAbort_faultKept _ _ s).trans (settleShelf_faultKept _ _)]
  case lineStuck => cases h; split; exacts [(lineStuck_faultKept _ s).trans (settleShelf_faultKept _ _), .refl s]
  case shelfWaitExpiry =>
    cases h; split
    · exact .refl s
    · split
      exacts [(settleShelf_faultKept _ _).after (by simp), .refl s]
  case wakeEvent => cases h; split; exacts [(warmValues_faultKept _).after rfl, .refl s]
  case probeStepEnd | probeComparatorTrip | wakeWaitingForHigh => cases h; split; exacts [.of_fault rfl, .refl s]
  case thresholdLowering => cases h; split; exacts [.refl s, .of_fault rfl]
  case undervoltageTrip => cases h; split; exacts [.of_fault (by simp), .refl s]
  case inputOvervolt =>
    have overvolt : FaultKept s s.inputOvervolt := (raise_faultKept _ _).after (by simp)
    cases h; split; exacts [overvolt.trans (settleShelf_faultKept _ _), .refl s]
  case hingeTrip => cases h; split; exacts [(hingeTrip_faultKept s).trans (settleShelf_faultKept _ _), .refl s]
  case cellOvervolt vCell iCell _ | cellOvercurrent vCell iCell _ =>
    have tripped : FaultKept s (s.tripCell vCell iCell) := (raiseAll_faultKept _ _).after rfl
    cases h; split; exacts [tripped.trans (settleShelf_faultKept _ _), .refl s]
  case comparatorNoLongerAsserted => cases h; exact .of_memory rfl

theorem tick_faultKept (s : State) : FaultKept s s.tick := by
  refine .of_fault ?_
  simp only [tick, withPending_fault]
  split
  exacts [(advance_fault 1 _).trans (otherEdge_fault s), otherEdge_fault s]

theorem step_faultKept {s t : State} (h : step s = .next t) : FaultKept s t := by
  simp only [step] at h
  split at h
  · cases h; exact tick_faultKept s
  · exact (exec_faultKept h).after rfl

end State
end Sys2Proof.Machine

open Sys2Proof Sys2Proof.Machine

/-- Settles O54: a kind logged joins its own class once, a kind counted stops its counter at 127, and every other write of the
log or of a counter clears it. -/
theorem stepKeepsFaultUnit : Obligations.StepKeepsFaultUnit := by
  intro s t h
  obtain ⟨counters, log⟩ := State.step_faultKept h
  exact ⟨counters, log⟩
end

section
/-!
SUPPORT. The protection comparators: what a HALTING kind leaves of the station, that a second one at the same event is only
logged, and what a trip leaves (R165, R171).
-/

namespace Sys2Proof.Machine.State

/-! ### What a HALTING kind does to the station -/

/-- SOLO and PAIRED become LATCHED, and in START the latch is pending (R171). -/
theorem haltingEffect_station (s : State) : s.haltingEffect.station = { s.station with
    state := if s.station.state = .solo ∨ s.station.state = .paired then .latched else s.station.state
    latchPending := s.station.latchPending || decide (s.station.state = .start) } := by
  obtain ⟨-, -, -, latched, -⟩ := s.enterLatched_spec
  have kept (unserving : ¬(s.station.state = .solo ∨ s.station.state = .paired)) (started : s.station.state ≠ .start) :
      s.station = { s.station with
        state := if s.station.state = .solo ∨ s.station.state = .paired then .latched else s.station.state
        latchPending := s.station.latchPending || decide (s.station.state = .start) } := by
    rw [if_neg unserving, decide_eq_false started, Bool.or_false]
  simp only [haltingEffect]
  split
  case h_1 state | h_2 state => simp [latched, state]
  case h_4 state => simp [state]
  case h_3 state | h_6 state => exact kept (by simp [state]) (by simp [state])
  case h_5 state =>
    have muted := kept (by simp [state]) (by simp [state])
    split
    exacts [(setCharge_station 0 _).trans muted, (setCharge_station 0 _).trans muted]

/-- No setpoint is moved but charge and link (R171). -/
theorem haltingEffect_apply (s : State) : s.haltingEffect.apply = { s.apply with
    charge := s.haltingEffect.apply.charge, chargeMa := s.haltingEffect.apply.chargeMa
    link := s.haltingEffect.apply.link, linkMa := s.haltingEffect.apply.linkMa } := by
  simp only [haltingEffect]
  split
  case h_1 | h_2 => rw [enterLatched_apply]
  case h_3 | h_4 | h_6 => rfl
  case h_5 =>
    have uncharged := setCharge_apply 0 (s.withFault { s.fault with dischargeClosed := false })
    split
    · rw [uncharged]; rfl
    · rw [withCharger_apply, uncharged]; rfl

theorem haltingEffect_serving {s : State} (serving : s.station.state = .solo ∨ s.station.state = .paired) :
    s.haltingEffect = s.enterLatched := by
  rcases serving with state | state <;> rw [haltingEffect, state]

/-- In MUTE no charge is applied, and the charger is in HOLD_OFF (R171). -/
theorem haltingEffect_mute {s : State} (mute : s.station.state = .mute) :
    s.haltingEffect.apply.charge = 0 ∧ s.haltingEffect.charger.phase = .holdOff := by
  rw [haltingEffect, mute]
  dsimp only
  split
  next rests => exact ⟨setCharge_charge 0 _, rests⟩
  · exact ⟨setCharge_charge 0 _, rfl⟩

/-! ### One HALTING kind is enough -/

/-- A state in which another HALTING kind has nothing left to do. -/
structure Halted (s : State) : Prop where
  discharge : s.fault.dischargeClosed = false
  unserving : s.station.state ≠ .solo ∧ s.station.state ≠ .paired
  pending : s.station.state = .start → s.station.latchPending = true
  muted : s.station.state = .mute → s.apply.charge = 0 ∧ s.charger.phase = .holdOff

/-- With the discharge switch open already, one HALTING kind does all (R171). -/
theorem haltingEffect_halted {s : State} (discharge : s.fault.dischargeClosed = false) : s.haltingEffect.Halted := by
  have station := s.haltingEffect_station
  refine ⟨?_, ?_, fun start => ?_, fun mute => ?_⟩
  · simp only [haltingEffect]
    split
    case h_1 | h_2 => exact s.enterLatched_latched.discharge
    case h_3 => exact discharge
    case h_4 | h_6 => rfl
    case h_5 => split <;> simp
  · rw [station]
    dsimp only
    split
    next => exact ⟨nofun, nofun⟩
    next other => exact not_or.mp other
  · rw [station] at start ⊢
    dsimp only at start ⊢
    split at start
    next => cases start
    next => simp [start]
  · refine haltingEffect_mute ?_
    rw [station] at mute
    dsimp only at mute
    split at mute
    next => cases mute
    next => exact mute

namespace Halted

variable {s : State} (halted : s.Halted)
include halted

/-- The opened switch, the pending latch and the charge of 0 stand already. -/
theorem haltingEffect : s.haltingEffect = s := by
  obtain ⟨discharge, ⟨notSolo, notPaired⟩, pending, muted⟩ := halted
  have opened : s.withFault { s.fault with dischargeClosed := false } = s := by rw [← discharge]; rfl
  rw [State.haltingEffect]
  split
  case h_1 solo => exact absurd solo notSolo
  case h_2 paired => exact absurd paired notPaired
  case h_3 => rfl
  case h_4 start =>
    have marked : s.withStation { s.station with latchPending := true } = s := by rw [← pending start]; rfl
    rw [marked, opened]
  case h_5 mute =>
    obtain ⟨charge, phase⟩ := muted mute
    rw [opened, setCharge_same charge.symm, if_pos phase]
  case h_6 => exact opened

theorem logKind (k : Kind) : (s.logKind k).Halted := by
  obtain ⟨discharge, unserving, pending, muted⟩ := halted
  exact ⟨by rw [logKind_dischargeClosed, discharge], by rwa [logKind_station], by rwa [logKind_station],
    by rwa [logKind_station, logKind_apply, logKind_charger]⟩

/-- A further kind, HALTING or not, is only logged. -/
theorem raise (k : Kind) : s.raise k = s.logKind k := by
  simp only [State.raise]
  split
  exacts [(halted.logKind k).haltingEffect, rfl]

/-- So is every further kind of the event. -/
theorem raiseAll (ks : List Kind) : (s.raiseAll ks).Halted ∧
    s.raiseAll ks = { s with line := (s.raiseAll ks).line, fault := (s.raiseAll ks).fault } := by
  induction ks generalizing s with
  | nil => exact ⟨halted, rfl⟩
  | cons k ks ih =>
    obtain ⟨after, rest⟩ := ih (halted.logKind k)
    rw [raiseAll_cons, halted.raise k]
    refine ⟨after, rest.trans ?_⟩
    rw [logKind_eq]

end Halted

/-- The comparators' arming and marks are not the log's to move (R165, R167). -/
theorem raiseAll_comparators (ks : List Kind) (s : State) : (s.raiseAll ks).fault.armed = s.fault.armed ∧
    (s.raiseAll ks).fault.overvoltAsserted = s.fault.overvoltAsserted ∧
      (s.raiseAll ks).fault.overcurrentAsserted = s.fault.overcurrentAsserted := by
  induction ks generalizing s with
  | nil => exact ⟨rfl, rfl, rfl⟩
  | cons k ks ih =>
    obtain ⟨armed, overvolt, overcurrent⟩ := ih (s.raise k)
    have raised : (s.raise k).fault.armed = s.fault.armed ∧
        (s.raise k).fault.overvoltAsserted = s.fault.overvoltAsserted ∧
          (s.raise k).fault.overcurrentAsserted = s.fault.overcurrentAsserted := by
      simp only [raise]
      split
      · rw [haltingEffect_fault, logKind_fault]; exact ⟨rfl, rfl, rfl⟩
      · rw [logKind_fault]; exact ⟨rfl, rfl, rfl⟩
    exact ⟨armed.trans raised.1, overvolt.trans raised.2.1, overcurrent.trans raised.2.2⟩

/-! ### The trip -/

/-- The comparators asserted at readings that trip them, with the discharge switch open (R165). -/
def cellAsserted (vCell : Nat) (iCell : Int) (s : State) : State :=
  s.withFault { s.fault with
    dischargeClosed := false
    overvoltAsserted := s.fault.overvoltAsserted || s.profile.overvolts vCell
    overcurrentAsserted := s.fault.overcurrentAsserted || s.profile.overcurrents iCell }

theorem tripCell_eq (vCell : Nat) (iCell : Int) (s : State) :
    s.tripCell vCell iCell = (s.cellAsserted vCell iCell).raiseAll (s.cellTrips vCell iCell) := rfl

theorem mem_cellTrips {vCell : Nat} {iCell : Int} {s : State} {k : Kind} : k ∈ s.cellTrips vCell iCell ↔
    (k = .cellOvervolt ∧ s.profile.chargeMv + 100 < vCell ∧ s.fault.overvoltAsserted = false) ∨
    (k = .cellOvercurrent ∧ (3 * s.profile.maxDischargeMa / 2 : Int) < -iCell ∧ s.fault.overcurrentAsserted = false) := by
  have volts : s.profile.overvolts vCell = true ↔ s.profile.chargeMv + 100 < vCell := decide_eq_true_iff
  have current : s.profile.overcurrents iCell = true ↔ (3 * s.profile.maxDischargeMa / 2 : Int) < -iCell := by
    simp [Profile.overcurrents, Profile.overcurrentMa]
  have listed (p : Prop) [Decidable p] (j : Kind) : k ∈ (if p then [j] else []) ↔ k = j ∧ p := by
    split <;> rename_i h <;> simp [h]
  simp only [cellTrips, List.mem_append, listed, Bool.and_eq_true, Bool.not_eq_true', volts, current]

/-- Both comparators' kinds are HALTING (R163). -/
theorem cellTrips_halting {vCell : Nat} {iCell : Int} {s : State} {k : Kind} (mem : k ∈ s.cellTrips vCell iCell) :
    k.severity = .halting := by
  rcases mem_cellTrips.mp mem with ⟨rfl, -⟩ | ⟨rfl, -⟩ <;> rfl

/-- The first kind of a trip acts on the station, and the rest of the trip is log and line (R165, R171). -/
theorem tripCell_acts {vCell : Nat} {iCell : Int} {s : State} {k : Kind} (mem : k ∈ s.cellTrips vCell iCell) :
    ∃ j, (s.tripCell vCell iCell).Halted ∧
      s.tripCell vCell iCell = { ((s.cellAsserted vCell iCell).logKind j).haltingEffect with
        line := (s.tripCell vCell iCell).line, fault := (s.tripCell vCell iCell).fault } := by
  rw [tripCell_eq]
  cases trips : s.cellTrips vCell iCell with
  | nil => simp [trips] at mem
  | cons j js =>
    have halting : j.severity = .halting := cellTrips_halting (trips ▸ List.mem_cons_self)
    have acted : ((s.cellAsserted vCell iCell).logKind j).haltingEffect.Halted :=
      haltingEffect_halted (logKind_dischargeClosed j _)
    rw [raiseAll_cons, raise_halting _ _ halting]
    exact ⟨j, acted.raiseAll js⟩

/-- No charger timer but the stay is moved (R171). -/
theorem tripCell_timers (vCell : Nat) (iCell : Int) (s : State) :
    (s.tripCell vCell iCell).charger.prechargeTimer = s.charger.prechargeTimer ∧
      (s.tripCell vCell iCell).charger.bulkTimer = s.charger.bulkTimer := by
  have kept := (raiseAll_quenched (s.cellTrips vCell iCell) (s.cellAsserted vCell iCell)).keeps
  rw [tripCell_eq, kept]
  exact ⟨rfl, rfl⟩

section
variable {vCell : Nat} {iCell : Int} {s : State} {k : Kind} (mem : k ∈ s.cellTrips vCell iCell)
include mem

theorem tripCell_station : (s.tripCell vCell iCell).station = { s.station with
    state := if s.station.state = .solo ∨ s.station.state = .paired then .latched else s.station.state
    latchPending := s.station.latchPending || decide (s.station.state = .start) } := by
  obtain ⟨j, -, e⟩ := tripCell_acts mem
  rw [e]
  simp only [haltingEffect_station, logKind_station]
  rfl

theorem tripCell_apply : (s.tripCell vCell iCell).apply = { s.apply with
    charge := (s.tripCell vCell iCell).apply.charge, chargeMa := (s.tripCell vCell iCell).apply.chargeMa
    link := (s.tripCell vCell iCell).apply.link, linkMa := (s.tripCell vCell iCell).apply.linkMa } := by
  obtain ⟨j, -, e⟩ := tripCell_acts mem
  rw [e]
  simp only
  rw [haltingEffect_apply, logKind_apply]
  rfl

/-- A trip latches a SOLO or PAIRED station, with a sweep in flight (R171). -/
theorem tripCell_latched (serving : s.station.state = .solo ∨ s.station.state = .paired) :
    (s.tripCell vCell iCell).Latched ∧ (s.tripCell vCell iCell).round.inFlight = true := by
  refine ⟨raiseAll_latched serving mem (cellTrips_halting mem), ?_⟩
  obtain ⟨j, -, e⟩ := tripCell_acts mem
  have logged : ((s.cellAsserted vCell iCell).logKind j).station.state = .solo ∨
      ((s.cellAsserted vCell iCell).logKind j).station.state = .paired := by rwa [logKind_station]
  obtain ⟨-, -, -, -, -, -, -, inFlight⟩ := ((s.cellAsserted vCell iCell).logKind j).enterLatched_spec
  rw [e, haltingEffect_serving logged]
  exact inFlight

/-- The event is the trip, outside SHELF (R165). -/
theorem exec_cellTrip (vIn : Nat) (armed : s.fault.armed = true) (awake : s.station.state ≠ .shelf) :
    exec (if k = .cellOvervolt then .cellOvervolt vCell iCell vIn else .cellOvercurrent vCell iCell vIn) s =
      .next (s.tripCell vCell iCell) := by
  have trips : s.tripsCell k vCell iCell = true := by simp [tripsCell, armed, mem]
  have settled : (s.tripCell vCell iCell).settleShelf vIn = s.tripCell vCell iCell := by
    refine settleShelf_outside _ _ ?_
    rw [tripCell_station mem]
    dsimp only
    split
    exacts [nofun, awake]
  rcases mem_cellTrips.mp mem with ⟨rfl, -⟩ | ⟨rfl, -⟩ <;>
    simp [exec, execCellOvervolt, execCellOvercurrent, trips, settled]

end

end Sys2Proof.Machine.State

open Sys2Proof Sys2Proof.Machine

/-- Settles O43: the first kind of the trip acts on the station, and what comes with it is only logged. -/
theorem cellComparatorsTrip : Obligations.CellComparatorsTrip := by
  intro vCell iCell vIn volts s armed awake c k overvolt overcurrent
  have mem : k ∈ s.cellTrips vCell iCell := by
    cases volts
    exacts [State.mem_cellTrips.mpr (.inr ⟨rfl, overcurrent rfl⟩), State.mem_cellTrips.mpr (.inl ⟨rfl, overvolt rfl⟩)]
  have next : exec c s = .next (s.tripCell vCell iCell) := by
    cases volts <;> exact State.exec_cellTrip mem vIn armed awake
  obtain ⟨j, halted, -⟩ := State.tripCell_acts mem
  obtain ⟨armed', volts', current'⟩ := State.raiseAll_comparators (s.cellTrips vCell iCell) (s.cellAsserted vCell iCell)
  have station := State.tripCell_station mem
  have apply := State.tripCell_apply mem
  obtain ⟨precharge, bulk⟩ := State.tripCell_timers vCell iCell s
  refine ⟨_, next, (State.raiseAll_holds _ k _).mpr (.inr mem), halted.discharge, fun on => ?_, fun off => ?_,
    armed'.trans armed, by rw [station], fun start => by rw [station]; simp [start], fun serving => ?_, fun mute => ?_,
    by rw [apply], by rw [apply], by rw [apply], State.tripCell_gauge .., State.tripCell_peers .., State.tripCell_policy ..,
    State.tripCell_accrued .., State.tripCell_start .., State.tripCell_pins .., State.tripCell_clock .., precharge, bulk⟩
  · have above : s.profile.overvolts vCell = true := decide_eq_true (overvolt on).1
    exact volts'.trans (by simp [State.cellAsserted, above])
  · have above : s.profile.overcurrents iCell = true := by
      simpa [Profile.overcurrents, Profile.overcurrentMa] using (overcurrent off).1
    exact current'.trans (by simp [State.cellAsserted, above])
  · obtain ⟨latched, inFlight⟩ := State.tripCell_latched mem serving
    exact ⟨latched.charge, latched.link, latched.phase, latched.port, inFlight⟩
  · exact halted.muted (by rw [station]; simp [mute])
end

section
/-!
SUPPORT. A kind logged: what the log of its class takes, the FLT pin and the ALERT (R167 to R170).
-/

namespace Sys2Proof.Machine

/-- The HALTING kinds are those numbered 1 to 6 (R163). -/
theorem Kind.severity_halting_iff (k : Kind) : k.severity = .halting ↔ k.number ≤ 6 := by
  simp [Kind.severity]

namespace ClassLog

variable {k : Kind} {r old : FaultRecord} {log : ClassLog}

/-- The three rows of R167, each as an equation. -/
theorem add_none (none : log.first = none) : log.add k r = some ({ log with first := some r }, true) := by
  simp [add, none]

theorem add_held (some : log.first = some old) (held : old.kind = k ∨ k ∈ log.next) : log.add k r = none := by
  simp [add, some, held]

theorem add_other (first : log.first = some old) (other : old.kind ≠ k) (absent : k ∉ log.next) :
    log.add k r = some ({ log with next := insertKind k log.next }, false) := by
  simp [add, first, other, absent]

end ClassLog

namespace State

/-- The log of the kind's own class takes it as R167 gives. -/
theorem logKind_ownLog (k : Kind) (s : State) : (s.logKind k).fault.log k.severity =
    (((s.fault.log k.severity).add k (s.snapshot k)).map Prod.fst).getD (s.fault.log k.severity) := by
  rw [logKind_log, if_pos rfl]

/-- The log of the other class is not written (R167). -/
theorem logKind_otherLog {k : Kind} {c : Class} (other : c ≠ k.severity) (s : State) :
    (s.logKind k).fault.log c = s.fault.log c := by
  rw [logKind_log, if_neg other]

/-- A first record leaves the next set (R167). -/
theorem logKind_next_none {k : Kind} {s : State} (none : (s.fault.log k.severity).first = none) :
    ((s.logKind k).fault.log k.severity).next = (s.fault.log k.severity).next := by
  rw [logKind_ownLog, ClassLog.add_none none]
  rfl

/-- A kind held changes nothing (R167). -/
theorem logKind_held {k : Kind} {s : State} {old : FaultRecord} (some : (s.fault.log k.severity).first = some old)
    (held : old.kind = k ∨ k ∈ (s.fault.log k.severity).next) : s.logKind k = s := by
  simp only [logKind, ClassLog.add_held some held]

/-- Another kind joins the next set (R167). -/
theorem mem_logKind_next {k : Kind} {s : State} {old : FaultRecord} (some : (s.fault.log k.severity).first = some old)
    (other : old.kind ≠ k) (absent : k ∉ (s.fault.log k.severity).next) (j : Kind) :
    j ∈ ((s.logKind k).fault.log k.severity).next ↔ j = k ∨ j ∈ (s.fault.log k.severity).next := by
  rw [logKind_ownLog, ClassLog.add_other some other absent]
  exact mem_insertKind k j _

/-- A change of the log asserts FLT for a HALTING kind and, with the strap's pin field, for a DEGRADED one (R170). -/
theorem logKind_flt {k : Kind} {s : State} (changed : s.logKind k ≠ s) : (s.logKind k).fault.fltAsserted =
    (s.fault.fltAsserted || decide (k.number ≤ 6) || s.start.straps.degradedPin) := by
  rw [← decide_eq_decide.mpr k.severity_halting_iff]
  cases added : (s.fault.log k.severity).add k (s.snapshot k) with
  | none => exact absurd (by simp only [logKind, added]) changed
  | some taken =>
    simp only [logKind, added]
    split
    · rfl
    · rw [handAlert_fault]; rfl

/-- With room in an open queue the ALERT of a change joins the ALERT posts, and nothing is dropped (R140, R169). -/
theorem logKind_alert {k : Kind} {s : State} (changed : s.logKind k ≠ s) (reported : k ≠ .addressClash)
    (open_ : s.queueOpen = true) (room : s.line.waiting < 4) :
    (s.logKind k).line.alerts =
        s.line.alerts ++ [⟨s.alertFor k (decide ((s.fault.log k.severity).first = none)), 0⟩] ∧
      (s.logKind k).fault.line = s.fault.line := by
  rcases logKind_cases reported open_ with ⟨-, same⟩ | ⟨-, line, -⟩
  · exact absurd same changed
  · rw [line, takeAlert_room _ room]
    exact ⟨rfl, (logKind_fits k room).1⟩

end State
end Sys2Proof.Machine

open Sys2Proof Sys2Proof.Machine

/-- Settles O45: the three rows of R167 for the class's log, and the pin and the ALERT of a change. -/
theorem logTakesKind : Obligations.LogTakesKind := by
  intro k s before after
  refine ⟨fun none => ⟨State.logKind_next_none none, State.logKind_first_none none⟩, fun r some held =>
    State.logKind_held some held, fun r some other absent => ⟨State.logKind_first some, State.mem_logKind_next some other absent⟩,
    fun changed => ⟨State.logKind_flt changed, State.logKind_alert changed⟩, fun j other => State.logKind_otherLog other s⟩
end

section
/-!
SUPPORT. The counters and the comparators' marks: an increase, and the marks that clear (R165, R173).
-/

namespace Sys2Proof.Machine

/-- An increase counts below 127, and at 127 sets the flag (R173). -/
theorem Counter.bump_eq (c : Counter) :
    if c.value < 127 then c.bump = ⟨c.value + 1, c.overflow⟩ else c.bump = ⟨c.value, true⟩ := by
  rcases c.bump_cases with ⟨below, e⟩ | ⟨top, e⟩
  · rwa [if_pos below]
  · rwa [if_neg (not_lt.mpr top)]

/-- The overvoltage threshold in the profile's own figure (R165, R21). -/
theorem Profile.overvolts_eq (p : Profile) (vCell : Nat) : p.overvolts vCell = decide (p.chargeMv + 100 < vCell) := rfl

/-- The overcurrent threshold in the profile's own figure (R165, R21). -/
theorem Profile.overcurrents_eq (p : Profile) (iCell : Int) :
    p.overcurrents iCell = decide ((3 * p.maxDischargeMa / 2 : Int) < -iCell) := rfl

end Sys2Proof.Machine

open Sys2Proof Sys2Proof.Machine

/-- Settles O44: each mark stands on only where its quantity is still above its threshold. -/
theorem comparatorsRearm : Obligations.ComparatorsRearm := by
  intro vCell iCell s
  rw [← Profile.overvolts_eq, ← Profile.overcurrents_eq]
  rfl

/-- Settles O47: each kind increases the counter of R164 by one `Counter.bump`, and writes nothing else. -/
theorem counterSaturates : Obligations.CounterSaturates := by
  intro k s bumped f g
  have bump (c : Counter) : bumped c c.bump := c.bump_eq
  refine ⟨fun line => ?_, ?_, ?_, ?_, State.count_eq k s⟩
  · simp only [List.mem_cons, List.not_mem_nil, or_false] at line
    rcases line with rfl | rfl | rfl | rfl | rfl <;> exact ⟨bump f.line, rfl⟩
  · rintro rfl
    exact ⟨bump f.link, rfl⟩
  · rintro rfl
    exact ⟨bump f.allot, rfl⟩
  · rintro (rfl | rfl) <;> exact ⟨bump f.gauge, rfl⟩
end

section
/-!
SUPPORT. The QUERY items that only read: the content bytes of R181 as they are written out, and the REPLY handed (R179, R180).
-/

namespace Sys2Proof.Machine

/-- The bounds of the hinge and cell temperature byte, as three rows (R144, R181). -/
theorem temperatureByte_eq (t2 : Int) : temperatureByte t2 =
    if t2 < -80 then 0 else if 175 < t2 then 255 else BitVec.ofNat 8 (t2 + 80).toNat := by
  simp only [temperatureByte, byteOfNat]
  split
  · rw [max_eq_left (by omega)]; rfl
  · split
    · rw [max_eq_right (by omega), min_eq_left (by omega)]; rfl
    · rw [max_eq_right (by omega), min_eq_right (by omega)]

/-- The severity of a kind in READ_FIRST, by its number (R163, R181). -/
theorem Kind.severityByte_eq (k : Kind) : byteOfNat k.severity.code = if k.number ≤ 6 then 2 else 1 := by
  simp only [Kind.severity]
  split <;> rfl

/-- A bit of READ_NEXT says whether a kind of that number waits (R181). -/
theorem kindBit_eq (next : List Kind) (number weight : Nat) :
    kindBit next number weight = if ∃ j ∈ next, j.number = number then weight else 0 := by
  simp only [kindBit, List.any_eq_true, decide_eq_true_eq]

/-- A class that byte 3 names is the class acted on (R180). -/
theorem classItem_named {item argument : Byte} {c : Class} (named : classOfArgument argument = some c) (s : State)
    (act : Class → State × ReplyContents) : classItem item argument s act = act c := by
  rw [classItem, named]

/-- A byte 3 that names no class makes the QUERY a BAD_ITEM (R180). -/
theorem classItem_unnamed {item argument : Byte} (h : argument ≠ 1) (h' : argument ≠ 2) (s : State)
    (act : Class → State × ReplyContents) : classItem item argument s act = (s, replyBare item .badItem) := by
  simp only [classItem, classOfArgument, if_neg h, if_neg h']

namespace State

/-- READ_NEXT answers with a bit for each kind that waits, and EMPTY where none does (R180, R181). -/
theorem itemReadNext_named {argument : Byte} {c : Class} (named : classOfArgument argument = some c) (s : State) :
    s.itemReadNext argument = (s, replyOf 2 (if (s.fault.log c).next = [] then none else
      some ([kindsByte (s.fault.log c).next 1, kindsByte (s.fault.log c).next 9, kindsByte (s.fault.log c).next 17] ++
        List.replicate 15 0))) := by
  rw [itemReadNext, classItem_named named]
  cases (s.fault.log c).next <;> rfl

/-- The items that no station has, and those of a class with none named, are BAD_ITEM (R180). -/
theorem item_bad {n argument : Byte} (s : State)
    (bad : 10 ≤ n.toNat ∨ n = 0 ∨ ((n = 1 ∨ n = 2 ∨ n = 5) ∧ argument ≠ 1 ∧ argument ≠ 2)) :
    s.item n argument = (s, replyBare n .badItem) := by
  rcases bad with high | rfl | ⟨rfl | rfl | rfl, h, h'⟩
  · unfold item
    split
    case h_10 => rfl
    all_goals omega
  · rfl
  all_goals exact classItem_unnamed h h' s _

/-- A QUERY taken whose item leaves the state: its REPLY is handed, and that is all (R179). -/
theorem takeQuery_answered {target : Byte} {act : State → State × ReplyContents} {r : ReplyContents} {s : State}
    (on : s.receiving = true) (toUs : target.toNat = s.start.straps.address.toNat ∨ target = 7)
    (few : s.line.replies.length < 2) (answers : act s.endReception = (s.endReception, r)) :
    s.takeQuery target act = s.endReception.handReply r := by
  rw [takeQuery_taken on toUs few, answers]

end State

end Sys2Proof.Machine

open Sys2Proof Sys2Proof.Machine

/-- Settles O27: each of the six leaves the state and answers with the bytes of its content. -/
theorem readingQueries : Obligations.ReadingQueries := by
  intro target item argument other k s on toUs few named bad byte two flag temperature zeros stationCode phaseCode portCode
    linkCode directionCode resultCode first log kinds counter profile record straps level start answer c r asked
  have class_ := classOfArgument_named named
  have log_ : s.endReception.fault.log k = log := by cases k <;> rfl
  have first_ (d : FaultRecord) : d.content = first d := by
    simp only [FaultRecord.content, Kind.severityByte_eq, temperatureByte_eq]
    rfl
  have kinds_ (low : Nat) : kindsByte log.next low = kinds low := by
    simp only [kindsByte, kindBit_eq]
    rfl
  have asks : ∃ act, exec c s = .next (s.takeQuery target act) ∧ act s.endReception = (s.endReception, r) := by
    simp only [List.mem_cons, List.not_mem_nil, or_false, Prod.mk.injEq] at asked
    rcases asked with ⟨rfl, rfl⟩ | ⟨rfl, rfl⟩ | ⟨rfl, rfl⟩ | ⟨rfl, rfl⟩ | ⟨rfl, rfl⟩ | ⟨rfl, rfl⟩
    · refine ⟨_, rfl, ?_⟩
      rw [State.itemReadFirst, classItem_named class_, log_]
      cases log.first with
      | none => rfl
      | some d => rw [Option.map_some, Option.map_some, first_]; rfl
    · refine ⟨_, rfl, ?_⟩
      rw [State.itemReadNext_named class_, log_, kinds_, kinds_, kinds_]
      rfl
    · exact ⟨_, rfl, rfl⟩
    · refine ⟨_, rfl, ?_⟩
      rw [State.itemReadProfile, State.endReception_start]
      cases s.start.record.profile <;> rfl
    · exact ⟨_, rfl, rfl⟩
    · exact ⟨_, rfl, State.item_bad _ bad⟩
  obtain ⟨act, query, answers⟩ := asks
  rw [query, State.takeQuery_answered on toUs few answers]
  exact congrArg Host.Outcome.next (State.handReply_receiving r on)
end

section
/-!
SUPPORT. The table of R177: a LIMIT's fields as they are stored, and the byte that is not read (R145).
-/

namespace Sys2Proof.Machine

/-- A contract is stored to at most 30,000 mW (R177). -/
theorem contractStored_some {h : Half} (given : h.toNat ≤ 65534) : contractStored h = some (min 30000 h.toNat) :=
  if_neg (by rintro rfl; exact absurd given (by decide))

/-- The fields of a LIMIT are those of its first eight bytes: neither the reserved byte nor the CRC is read (R145). -/
theorem decodeLimit_append {body : List Byte} (whole : body.length = 8) (tail : List Byte) :
    decodeLimit (body ++ tail) = decodeLimit body := by
  have byte {n : Nat} (h : n < 8) : (body ++ tail).getD n 0 = body.getD n 0 :=
    List.getD_append body tail 0 n (whole ▸ h)
  simp only [decodeLimit, halfAt, byte, Nat.reduceAdd, Nat.reduceLT]

namespace State

/-- Storing a LIMIT's fields reports nothing (R176). -/
theorem limitStored_fault (contract : Option Nat) (ceiling : Nat) (balance : Bool) (s : State) :
    (s.limitStored contract ceiling balance).fault = s.fault := by
  simp [limitStored]

/-- No order changes what the LIMIT stored (R176, R178). -/
theorem limitRouted_policy (p : LimitPost) (vIn : Nat) (s : State) :
    ((s.limitStored (contractStored p.contract) (ceilingStored p.ceiling) (balanceStored p.balance)).routeOrder
      (orderStored p.order) vIn).policy =
      ⟨contractStored p.contract, ceilingStored p.ceiling, balanceStored p.balance⟩ := by
  rw [routeOrder_policy, limitStored_policy]

end State

end Sys2Proof.Machine

open Sys2Proof Sys2Proof.Machine

/-- Settles O50: the policy after the post, whatever its order, is that of the table. -/
theorem limitFieldsStored : Obligations.LimitFieldsStored := by
  intro p vIn s on target
  refine ⟨_, State.exec_limit_routed vIn on target, ?_⟩
  simp only [State.limitRouted_policy]
  refine ⟨fun low => ?_, fun above given => ?_, fun absent => ?_, fun low => ?_, fun low high => ?_, fun high => ?_,
    fun zero => ?_, fun pos => ?_, fun order => ?_, fun shelf => ?_, fun release => ?_, ?_⟩
  · rw [contractStored_some (by omega), min_eq_right low]
  · rw [contractStored_some given, min_eq_left (by omega)]
  · rw [absent]; rfl
  · simp only [ceilingStored]; omega
  · simp only [ceilingStored]; omega
  · simp only [ceilingStored]; omega
  · rw [zero]; rfl
  · exact decide_eq_true fun h => by simp [h] at pos
  · have unordered : orderStored p.order = .none :=
      State.orderStored_none (fun h => by simp [h] at order) (fun h => by simp [h] at order)
    refine ⟨unordered, ?_⟩
    rw [unordered]
    exact s.limitStored_fault _ _ _
  · rw [shelf]; rfl
  · rw [release]; rfl
  · intro body whole reserved₁ reserved₂ check₁ check₂
    rw [decodeLimit_append whole, decodeLimit_append whole]
end

section
/-!
SUPPORT. The step with a command waiting, and what every command does to the queue of commands: nothing (notes/assumptions/2.md,
5.md).
-/

namespace Sys2Proof.Machine.State

/-- With a command waiting, the step is that command's meaning on the state with the rest of the queue. -/
theorem step_pending_cons {c : Instr} {rest : List Instr} {s : State} (waits : s.pending = c :: rest) :
    step s = exec c (s.withPending rest) := by
  rw [step, waits]

/-- No command is a fault and none is refused (notes/assumptions/2.md, 5.md). -/
theorem exec_goes_on (c : Instr) (s : State) : ∃ t, exec c s = .next t := by
  cases c <;> exact ⟨_, rfl⟩

/-- A QUERY's item leaves the queue of commands (R180). -/
theorem item_pending (item argument : Byte) (s : State) : (s.item item argument).1.pending = s.pending := by
  rw [item_blocks]

theorem takeQuery_pending (target : Byte) {act : State → State × ReplyContents} (kept : ∀ s, (act s).1.pending = s.pending)
    (s : State) : (s.takeQuery target act).pending = s.pending := by
  cases on : s.receiving
  · rw [takeQuery, on]; rfl
  · rcases s.takeQuery_cases target act on with ⟨-, e⟩ | ⟨-, -, e⟩ | ⟨-, -, e⟩ <;> rw [e]
    · exact endReception_pending s
    · rw [count_pending, endReception_pending]
    · rw [handReply_pending, kept, endReception_pending]

/-- Every command leaves the queue of commands: a reset keeps it, and nothing else writes it. -/
theorem exec_pending {c : Instr} {s t : State} (h : exec c s = .next t) : t.pending = s.pending := by
  cases c
  case powerOnReset | warmReset | comparatorNoLongerAsserted => cases h; rfl
  case shelfOrder vIn => cases h; exact shelfOrder_pending vIn s
  case release => cases h; exact releaseOrder_pending s
  case readFirst target argument => cases h; exact takeQuery_pending target (item_pending 1 argument) s
  case readNext target argument => cases h; exact takeQuery_pending target (item_pending 2 argument) s
  case clearLog target argument => cases h; exact takeQuery_pending target (item_pending 5 argument) s
  case badItem target item argument => cases h; exact takeQuery_pending target (item_pending item argument) s
  case readCounters | readFlags | clearCounters | ackPin | readProfile | readStart =>
    cases h; exact takeQuery_pending _ (fun _ => rfl) s
  case foldEdge =>
    cases h; split
    · rfl
    · split
      exacts [rfl, foldMotion_pending _]
  case stateArrival source post vIn =>
    cases h; split
    · rfl
    · split
      · exact takeClash_pending s
      · split
        · exact endReception_pending s
        · rw [settleShelf_pending, takeArrival_pending, endReception_pending]
  case limit post vIn =>
    cases h; split
    · rfl
    · split
      · rw [takeLimit_pending, endReception_pending]
      · exact endReception_pending s
  case shelfWaitExpiry =>
    cases h; split
    · rfl
    · split
      · rw [settleShelf_pending, failFinal_pending, advance_pending]
      · rfl
  case lostArbitration read =>
    cases h; split
    case h_1 => rfl
    case h_2 => rw [settleRetry_pending, stopSending_pending]
    all_goals exact stopSending_pending read s
  case resetNRise | alertSent | replySent | wakeWaitingForHigh | wakeEvent | probeStepEnd | probeComparatorTrip
      | thresholdLowering => cases h; split <;> rfl
  -- A timer's expiry or a transmission's end, where there is one.
  case ownRoundExpiry | foldWindowExpiry | ownStateSent | echoAbort => cases h; split <;> simp
  -- The event's own operation where it can occur, and nothing where it cannot.
  case strapsComplete | profileComplete | cellCheckComplete | listenEnd | sweepComplete | addressClash | invalidPost
      | discardedPost | lineIdle | lineStuck | undervoltageTrip | inputOvervolt | hingeTrip | cellOvervolt
      | cellOvercurrent => cases h; split <;> simp

end Sys2Proof.Machine.State

open Sys2Proof Sys2Proof.Machine

/-- Settles O1. -/
theorem stepRunsFrontCommand : Obligations.StepRunsFrontCommand :=
  fun _ _ _ waits => State.step_pending_cons waits

/-- Settles O2: no meaning answers with a fault or a refusal, and none writes the queue of commands. -/
theorem everyCommandGoesOn : Obligations.EveryCommandGoesOn := by
  intro c s
  obtain ⟨t, next⟩ := State.exec_goes_on c s
  exact ⟨t, next, State.exec_pending next⟩
end
